-- ==== Sys2Proof/Word.lean ====
section
/-! DEFINITION. The word types of the block: bytes, and the 48-bit command frame (00_scope.md R9, 30_encoding.md R85). -/

namespace Sys2Proof

/-- A byte is 8 bits (R9). All values are unsigned. -/
abbrev Byte := BitVec 8

/-- A command frame as a 48-bit value with byte 0 in bits 47:40 (R85). -/
abbrev FrameWord := BitVec 48

end Sys2Proof
end

