-- ==== Sys2Proof/Config.lean ====
section
/-! DEFINITION. What is fixed for one machine: the implementation parameters of 00_scope.md R6, HOST_BASE of 20_memory.md R74,
the events of the bus trace (R13), and the free values (opaque constants without a body). -/

namespace Sys2Proof

/-- The two clock levels of the transport (10_state.md R35). -/
inductive ClockLevel where
  | slow
  | fast
  deriving DecidableEq, Repr

/-- One event of the bus trace (00_scope.md R11, R13). -/
inductive BusEvent where
  | x (tx rx : Byte)
  | sel
  | desel
  | clk (level : ClockLevel)
  deriving DecidableEq, Repr

/-- TOKEN_MATCH_MODE (R6, 42_block_read.md R181). -/
inductive TokenMatchMode where
  | skipUntilFe
  | firstNonFf
  deriving DecidableEq, Repr

/-- The implementation parameters of 00_scope.md R6, and HOST_BASE (20_memory.md R74), which no rule reads. -/
structure Config where
  respPollBudget : Nat
  idleAttempts : Nat
  initAttempts : Nat
  tokenPollBudget : Nat
  wrespPollBudget : Nat
  busyPollBudget : Nat
  powerupFillerBytes : Nat
  idleOk : Byte
  cmdGoIdle : Byte
  cmdInitCmd : Byte
  cmdAppCmd : Byte
  cmdSdSendOpCond : Byte
  cmdReadSingle : Byte
  cmdWriteSingle : Byte
  tokenMatchMode : TokenMatchMode
  mmcFastClock : Bool
  hostBase : Nat
  deriving DecidableEq, Repr

namespace Config

/-- The default column of R6. PRESUMED (log 2): CMD_BYTE and IDLE_OK come from general knowledge (93 G1, G2), HOST_BASE is chosen. -/
def default : Config where
  respPollBudget := 256
  idleAttempts := 32
  initAttempts := 255
  tokenPollBudget := 65535
  wrespPollBudget := 256
  busyPollBudget := 65535
  powerupFillerBytes := 10
  idleOk := 0x01#8
  cmdGoIdle := 0x40#8
  cmdInitCmd := 0x41#8
  cmdAppCmd := 0x77#8
  cmdSdSendOpCond := 0x69#8
  cmdReadSingle := 0x51#8
  cmdWriteSingle := 0x58#8
  tokenMatchMode := .skipUntilFe
  mmcFastClock := true
  hostBase := 0

/-- Free value: an unspecified byte of BUF (10_state.md R34, 20_memory.md R69), a fresh one for every draw number. -/
opaque freeByte : Nat → Byte

/-- Free value: the card's answer to an exchange (R5): any function of the draw number, the bus trace so far and the byte sent. -/
opaque cardOracle : Nat → List BusEvent → Byte → Byte

end Config
end Sys2Proof
end

