-- ==== Sys2Proof/Machine/Configuration.lean ====
section
/-! DEFINITION. Which configurations are configurations of this block (00_scope.md R6, R8). -/

namespace Sys2Proof

/-- A budget or attempt count of R6: 1 to 65535. -/
def budgetLegal (b : Nat) : Bool := 1 ≤ b && b ≤ 65535

/-- The legal range column of R6. CMD_BYTE, TOKEN_MATCH_MODE, MMC_FAST_CLOCK and HOST_BASE have no illegal value. -/
def Config.legal (c : Config) : Bool :=
  budgetLegal c.respPollBudget && budgetLegal c.idleAttempts && budgetLegal c.initAttempts
    && budgetLegal c.tokenPollBudget && budgetLegal c.wrespPollBudget && budgetLegal c.busyPollBudget
    && (10 ≤ c.powerupFillerBytes && c.powerupFillerBytes ≤ 65535)
    && c.idleOk != 0xFF#8

end Sys2Proof
end

