-- ==== Sys2Proof/Syntax.lean ====
section
/-! DEFINITION. The instructions: one constructor per row of spec/opcode_table.json, in the three encoding spaces of
30_encoding.md R80. Operands are the bits the row leaves open. -/

namespace Sys2Proof

/-- The six commands of R86. -/
inductive Command where
  | goIdle
  | initCmd
  | appCmd
  | sdSendOpCond
  | readSingle
  | writeSingle
  deriving DecidableEq, Repr

/-- The sites that receive a byte with a meaning (R90 to R93). -/
inductive Site where
  | response
  | token
  | dataResponse
  | busy
  deriving DecidableEq, Repr

/-- The three encoding spaces of R80; a received byte belongs to the site that receives it (R95). -/
inductive Space where
  | request
  | frame
  | received (site : Site)
  deriving DecidableEq, Repr

/-- The opcode table. `ignored` is bits 7:3 of a request, `r7` and `r3` its reserved bits, `sel` its CMDSEL, `arg` a frame's
argument, `x` a received byte and `hi` the high nibble of a data-response. -/
inductive Instr where
  -- host request byte, format OPREQ8 (R81 to R84)
  | nop (ignored : BitVec 5)
  | init (ignored : BitVec 5)
  | sendcmd (sel : BitVec 3) (r7 r3 : BitVec 1)
  | sendcmdBadsel (sel : BitVec 3) (r7 r3 : BitVec 1)
  | read (ignored : BitVec 5)
  | rdpart (ignored : BitVec 5)
  | write (ignored : BitVec 5)
  | reserved6 (ignored : BitVec 5)
  | reserved7 (ignored : BitVec 5)
  -- command frame, format CMDFRAME48 (R85 to R89)
  | goIdle (arg : BitVec 32)
  | initCmd (arg : BitVec 32)
  | appCmd (arg : BitVec 32)
  | sdSendOpCond (arg : BitVec 32)
  | readSingle (arg : BitVec 32)
  | writeSingle (arg : BitVec 32)
  -- received byte, format RX8 (R90 to R95)
  | respNotReady
  | respOk
  | respIdleOk
  | respError (x : Byte)
  | dataToken
  | drespAccepted (hi : BitVec 4)
  | drespCrcRejected (hi : BitVec 4)
  | drespWriteError (hi : BitVec 4)
  | busy
  deriving DecidableEq, Repr

/-- The encoding space a row's format belongs to. -/
def Instr.space : Instr → Space
  | .nop _ | .init _ | .sendcmd _ _ _ | .sendcmdBadsel _ _ _ | .read _ | .rdpart _ | .write _ | .reserved6 _
  | .reserved7 _ => .request
  | .goIdle _ | .initCmd _ | .appCmd _ | .sdSendOpCond _ | .readSingle _ | .writeSingle _ => .frame
  | .respNotReady | .respOk | .respIdleOk | .respError _ => .received .response
  | .dataToken => .received .token
  | .drespAccepted _ | .drespCrcRejected _ | .drespWriteError _ => .received .dataResponse
  | .busy => .received .busy

end Sys2Proof
end

