-- ==== Sys2Proof/WellFormed.lean ====
section
/-! DEFINITION. Which terms of Instr stand for a row's words: the operand values the row's mask and note admit. -/

namespace Sys2Proof

/-- SENDCMD has CMDSEL 0 to 3 and SENDCMD_BADSEL 4 to 7 (R83); RESP_ERROR is "any other byte, after the rows above" (R90);
RESP_IDLE_OK is a row of its own only where IDLE_OK is neither the not-ready byte (R6) nor the OK byte. -/
def Instr.wellFormed (cfg : Config) : Instr → Bool
  | .sendcmd sel _ _ => sel.toNat < 4
  | .sendcmdBadsel sel _ _ => 4 ≤ sel.toNat
  | .respError x => x != 0xFF#8 && x != 0x00#8 && x != cfg.idleOk
  | .respIdleOk => cfg.idleOk != 0xFF#8 && cfg.idleOk != 0x00#8
  | .nop _ | .init _ | .read _ | .rdpart _ | .write _ | .reserved6 _ | .reserved7 _ => true
  | .goIdle _ | .initCmd _ | .appCmd _ | .sdSendOpCond _ | .readSingle _ | .writeSingle _ => true
  | .respNotReady | .respOk | .dataToken => true
  | .drespAccepted _ | .drespCrcRejected _ | .drespWriteError _ | .busy => true

end Sys2Proof
end

