-- ==== Sys2Proof/Decode.lean ====
section
/-! DEFINITION. Decoding and encoding (30_encoding.md). The request decoder is total (R84); a frame or a received byte that is no row
of the opcode table is rejected by name. The encoder is written from the same tables. -/

namespace Sys2Proof

/-! ## Constants fixed by the source (00_scope.md R7) -/

/-- The frame trailer (R88). -/
def trailerByte : Byte := 0x95#8
/-- Sent in every exchange made only to receive or to clock the bus (R94). -/
def fillerByte : Byte := 0xFF#8
/-- Not ready, at the command response and token sites (R90, R91). -/
def notReadyByte : Byte := 0xFF#8
/-- The data-start token (R91). -/
def dataStartToken : Byte := 0xFE#8
/-- Response OK (R90). -/
def okByte : Byte := 0x00#8
/-- Busy, at the write busy site (R93). -/
def busyByte : Byte := 0x00#8

/-! ## Request byte (R81 to R84) -/

/-- The request a byte written to OPREQ makes: OP is bits 2:0, CMDSEL bits 6:4. -/
def decodeRequest (v : Byte) : Instr :=
  let ignored : BitVec 5 := v.extractLsb' 3 5
  let sel : BitVec 3 := v.extractLsb' 4 3
  let r7 : BitVec 1 := v.extractLsb' 7 1
  let r3 : BitVec 1 := v.extractLsb' 3 1
  match (v.extractLsb' 0 3).toNat with
  | 0 => .nop ignored
  | 1 => .init ignored
  | 2 => if sel.toNat < 4 then .sendcmd sel r7 r3 else .sendcmdBadsel sel r7 r3
  | 3 => .read ignored
  | 4 => .rdpart ignored
  | 5 => .write ignored
  | 6 => .reserved6 ignored
  | _ => .reserved7 ignored

/-- The request byte with the given bits 7:3 and OP. -/
def requestByte (ignored : BitVec 5) (op : BitVec 3) : Byte := ignored ++ op

/-- The SENDCMD request byte `rcccr010`. -/
def sendcmdByte (sel : BitVec 3) (r7 r3 : BitVec 1) : Byte := r7 ++ sel ++ r3 ++ 2#3

/-! ## Command frame (R85 to R88) -/

/-- CMD_BYTE[c] (R86). -/
def Config.cmdByte (cfg : Config) : Command → Byte
  | .goIdle => cfg.cmdGoIdle
  | .initCmd => cfg.cmdInitCmd
  | .appCmd => cfg.cmdAppCmd
  | .sdSendOpCond => cfg.cmdSdSendOpCond
  | .readSingle => cfg.cmdReadSingle
  | .writeSingle => cfg.cmdWriteSingle

/-- The command set in the table's order (R86). -/
def commands : List Command := [.goIdle, .initCmd, .appCmd, .sdSendOpCond, .readSingle, .writeSingle]

/-- The frame of a command byte and an argument: command byte, argument most significant byte first, trailer (R85). -/
def frameWord (b : Byte) (arg : BitVec 32) : FrameWord := b ++ arg ++ trailerByte

/-- Byte k of a frame in the order of sending, byte 0 first (R85). -/
def frameByte (w : FrameWord) (k : Nat) : Byte := w.extractLsb' (8 * (5 - k)) 8

/-- The 48-bit value of six bytes in the order of sending (R85). -/
def joinFrame (b0 b1 b2 b3 b4 b5 : Byte) : FrameWord := b0 ++ b1 ++ b2 ++ b3 ++ b4 ++ b5

/-- The row of the opcode table for a frame of a command. -/
def frameInstr : Command → BitVec 32 → Instr
  | .goIdle, arg => .goIdle arg
  | .initCmd, arg => .initCmd arg
  | .appCmd, arg => .appCmd arg
  | .sdSendOpCond, arg => .sdSendOpCond arg
  | .readSingle, arg => .readSingle arg
  | .writeSingle, arg => .writeSingle arg

/-- Received bytes that have a meaning at their site and no row in the opcode table. -/
inductive Unlisted where
  /-- 0xFF at the token site (R91). -/
  | tokenNotReady
  /-- A byte other than 0xFF and 0xFE at the token site (R91). -/
  | tokenOther
  /-- A low nibble other than 0x5, 0xB and 0xD at the data-response site (R92). -/
  | dataResponseNotYet
  /-- A non-zero byte at the busy site (R93). -/
  | cardReady
  deriving DecidableEq, Repr

/-- Why bytes are no row of the opcode table. -/
inductive DecodeReject where
  /-- Not the number of bytes of the encoding space (R80). -/
  | badLength
  /-- Byte 5 of a frame is not 0x95 (R88). -/
  | badTrailer
  /-- Byte 0 of a frame is no CMD_BYTE (R86). -/
  | unknownCommand
  /-- The received byte has a meaning at its site and no row. -/
  | unlisted (u : Unlisted)
  deriving DecidableEq, Repr

/-- The command of a command byte: the first of R86's table whose CMD_BYTE it is (log 20). -/
def commandOf (cfg : Config) (b : Byte) : Option Command := commands.find? fun c => cfg.cmdByte c == b

/-- Decode a 48-bit frame. -/
def decodeFrame (cfg : Config) (w : FrameWord) : Except DecodeReject Instr :=
  if w.extractLsb' 0 8 = trailerByte then
    match commandOf cfg (w.extractLsb' 40 8) with
    | some c => .ok (frameInstr c (w.extractLsb' 8 32))
    | none => .error .unknownCommand
  else .error .badTrailer

/-! ## Received byte by site (R90 to R95) -/

/-- Command response site (R90), in the table's order. -/
def decodeResponse (cfg : Config) (x : Byte) : Instr :=
  if x = notReadyByte then .respNotReady
  else if x = okByte then .respOk
  else if x = cfg.idleOk then .respIdleOk
  else .respError x

/-- Token site (R91). -/
def decodeToken (x : Byte) : Except Unlisted Instr :=
  if x = dataStartToken then .ok .dataToken
  else if x = notReadyByte then .error .tokenNotReady
  else .error .tokenOther

/-- Data-response site: the low nibble decides, bits 7:4 are ignored (R92). -/
def decodeDataResponse (d : Byte) : Except Unlisted Instr :=
  let hi : BitVec 4 := d.extractLsb' 4 4
  match (d.extractLsb' 0 4).toNat with
  | 0x5 => .ok (.drespAccepted hi)
  | 0xB => .ok (.drespCrcRejected hi)
  | 0xD => .ok (.drespWriteError hi)
  | _ => .error .dataResponseNotYet

/-- Busy site (R93). -/
def decodeBusy (b : Byte) : Except Unlisted Instr :=
  if b = busyByte then .ok .busy else .error .cardReady

/-- A received byte is classified by its site, never by value alone (R95). -/
def decodeReceived (cfg : Config) (site : Site) (x : Byte) : Except Unlisted Instr :=
  match site with
  | .response => .ok (decodeResponse cfg x)
  | .token => decodeToken x
  | .dataResponse => decodeDataResponse x
  | .busy => decodeBusy x

/-! ## Bytes -/

/-- Decode the bytes of an encoding space, in the order they are written, sent or received. -/
def decodeBytes (cfg : Config) (space : Space) (bytes : List Byte) : Except DecodeReject Instr :=
  match space, bytes with
  | .request, [v] => .ok (decodeRequest v)
  | .frame, [b0, b1, b2, b3, b4, b5] => decodeFrame cfg (joinFrame b0 b1 b2 b3 b4 b5)
  | .received site, [x] =>
    match decodeReceived cfg site x with
    | .ok i => .ok i
    | .error u => .error (.unlisted u)
  | _, _ => .error .badLength

/-- The six bytes of a frame in the order of sending. -/
def frameBytes (b : Byte) (arg : BitVec 32) : List Byte :=
  [0, 1, 2, 3, 4, 5].map (frameByte (frameWord b arg))

/-- The bytes of an instruction, from the same tables. -/
def encode (cfg : Config) : Instr → List Byte
  | .nop ig => [requestByte ig 0#3]
  | .init ig => [requestByte ig 1#3]
  | .sendcmd sel r7 r3 => [sendcmdByte sel r7 r3]
  | .sendcmdBadsel sel r7 r3 => [sendcmdByte sel r7 r3]
  | .read ig => [requestByte ig 3#3]
  | .rdpart ig => [requestByte ig 4#3]
  | .write ig => [requestByte ig 5#3]
  | .reserved6 ig => [requestByte ig 6#3]
  | .reserved7 ig => [requestByte ig 7#3]
  | .goIdle arg => frameBytes (cfg.cmdByte .goIdle) arg
  | .initCmd arg => frameBytes (cfg.cmdByte .initCmd) arg
  | .appCmd arg => frameBytes (cfg.cmdByte .appCmd) arg
  | .sdSendOpCond arg => frameBytes (cfg.cmdByte .sdSendOpCond) arg
  | .readSingle arg => frameBytes (cfg.cmdByte .readSingle) arg
  | .writeSingle arg => frameBytes (cfg.cmdByte .writeSingle) arg
  | .respNotReady => [notReadyByte]
  | .respOk => [okByte]
  | .respIdleOk => [cfg.idleOk]
  | .respError x => [x]
  | .dataToken => [dataStartToken]
  | .drespAccepted hi => [hi ++ 0x5#4]
  | .drespCrcRejected hi => [hi ++ 0xB#4]
  | .drespWriteError hi => [hi ++ 0xD#4]
  | .busy => [busyByte]

/-- The instruction of a word numbered as spec/opcode_table.json numbers it. 8 bits are a request byte, the one byte the block
decodes without a site (R84, R95; log 10); 48 bits are a frame with byte 0 in bits 47:40 (R85; log 11), under the table's CMD_BYTE. -/
def decodeTableWord (nbits w : Nat) : Option Instr :=
  if nbits = 8 then some (decodeRequest (BitVec.ofNat 8 w))
  else if nbits = 48 then
    match decodeFrame Config.default (BitVec.ofNat 48 w) with
    | .ok i => some i
    | .error _ => none
  else none

end Sys2Proof
end

