-- ==== Sys2Proof/Machine/State.lean ====
section
/-! DEFINITION. The state of the block (10_state.md R20 to R38), the outside the model holds beside it (agenda, card answers, host reads),
the reasons a step can stop, and the state after reset (70_reset_and_hazards.md R280). -/

namespace Sys2Proof.Machine

/-- The card-session state (R28, R36). The code 7 is never held, so it has no name here (log 18). -/
inductive Session where
  | uninitialized
  | poweringUp
  | idleEntered
  | negotiating
  | sdCard
  | mmcCard
  | failed
  deriving DecidableEq, Repr

/-- The failure codes of 60_exceptions.md R241. The code 0xF is never held, so it has no name here (log 18). -/
inductive ErrCode where
  | none
  | cmdTimeout
  | cmdRejected
  | tokenTimeout
  | tokenMismatch
  | wrCrcRejected
  | wrErrorRejected
  | wrRespTimeout
  | busyTimeout
  | idleFailed
  | initFailed
  | paramError
  | notReady
  | seqError
  | badOp
  deriving DecidableEq, Repr

/-- The operations that run in the sequencer. -/
inductive Op where
  | init
  | sendcmd
  | read
  | rdpart
  | write
  deriving DecidableEq, Repr

/-- Where SendCommand returns to: its call sites in R123, R150 (four), R180, R185 and R210. -/
inductive Caller where
  | sendcmd
  | initIdle
  | initInit
  | initApp
  | initOpCond
  | read
  | rdpart
  | write
  deriving DecidableEq, Repr

/-- The sequencer's position (R37). Every position but `idle` and `start` stands right after an exchange (R12): the next step
performs the statements that follow it. -/
inductive Pos where
  /-- No operation runs. -/
  | idle
  /-- The operation was accepted; its first statement is next. -/
  | start (op : Op)
  /-- R151: a power-up filler exchange was made. -/
  | filler
  /-- R124: `sent` bytes of the frame were sent; at 0 the first Exchange of SendCommand is next. -/
  | frame (sent : Nat)
  /-- R125: a response poll was made. -/
  | respPoll
  /-- R126: the dummy exchange after a response was made. -/
  | respDummy
  /-- R181: a token poll was made. -/
  | tokenPoll
  /-- R182: data byte i of a READ was received. -/
  | readData
  /-- R185: data byte i of an RDPART was received. -/
  | partData
  /-- R183: the first checksum exchange was made. -/
  | crcFirst
  /-- R183: the second checksum exchange was made. -/
  | crcSecond
  /-- R184, R214: the trailing filler exchange was made. -/
  | trailer
  /-- R211: the dummy byte was sent. -/
  | writeDummy
  /-- R211: the data-start token was sent. -/
  | writeToken
  /-- R211: data byte i was sent. -/
  | writeData
  /-- R212: a data-response poll was made. -/
  | drespPoll
  /-- R213: a busy poll was made. -/
  | busyPoll
  deriving DecidableEq, Repr

/-- The hidden sequencer state (R37, R38), with the locals the pseudocode names (log 8). -/
structure Sequencer where
  pos : Pos
  /-- The poll counter n (R38). -/
  n : BitVec 16
  /-- The byte index i (R38). -/
  i : BitVec 10
  /-- The filler counter j (R150). -/
  j : BitVec 16
  /-- The latched response r (R38). -/
  r : Byte
  /-- The latched timeout flag (R38). -/
  timedout : Bool
  /-- The byte the last exchange received. -/
  rx : Byte
  caller : Caller
  /-- The command of the frame being sent (parameter b of R124). -/
  cmd : Command
  /-- The argument of the frame being sent (parameter arg of R124). -/
  arg : BitVec 32
  deriving DecidableEq, Repr

/-- The sequencer at rest: position IDLE, every hidden value 0 (R38). DESIGN CHOICE for rx, caller, cmd, arg (log 8). -/
def Sequencer.reset : Sequencer where
  pos := .idle
  n := 0#16
  i := 0#10
  j := 0#16
  r := 0x00#8
  timedout := false
  rx := 0x00#8
  caller := .sendcmd
  cmd := .goIdle
  arg := 0#32

/-- A host access (R11, R60). `width` is the second argument of MemRead and MemWrite; only 1 exists (R65). -/
inductive HostAccess where
  | read (addr : BitVec 10) (width : Nat)
  | write (addr : BitVec 10) (width : Nat) (value : Byte)
  deriving DecidableEq, Repr

/-- Who moves next (R12): the host with one access, the host's WAIT (30_encoding.md R97), the sequencer, or a reset. -/
inductive Turn where
  | host (access : HostAccess)
  | wait
  | sequencer
  | reset
  deriving DecidableEq, Repr

/-- One value the host read. -/
structure HostRead where
  addr : BitVec 10
  value : Byte
  deriving DecidableEq, Repr

/-- A step that the model reports as a modelling error. -/
inductive Fault where
  /-- Raised by the sequencer's turn in a state whose BUSY flag and position disagree, which R37 excludes ("It is IDLE when
  BUSY = 0 and otherwise names the next statement"). No step reaches such a state. Safe (log 16). -/
  | incoherentSequencer
  deriving DecidableEq, Repr

/-- A step to which the model gives no meaning. -/
inductive Refusal where
  /-- Raised by exec for an instruction of the table that has no meaning yet. Safe. -/
  | notModelled (mnemonic : String)
  /-- Raised by step in a state whose configuration is outside the legal range (00_scope.md R8). Safe. -/
  | illegalConfiguration
  /-- Raised by a host access of a width other than one byte (20_memory.md R65). Safe. -/
  | accessWidth
  deriving DecidableEq, Repr

/-- The machine. -/
structure State where
  /-- The parameters of R6: an argument of the machine that no step changes (R20; log 1). -/
  cfg : Config
  /-- BUF (R34): the bytes written since reset, by index; an unlisted byte is unspecified (log 5). -/
  buf : List Host.Cell
  /-- LASTOP, what a read of OPREQ returns (R23). -/
  lastop : Byte
  busy : Bool
  done : Bool
  fail : Bool
  sel : Bool
  clkfast : Bool
  err : ErrCode
  resp : Byte
  dresp : Byte
  session : Session
  att : BitVec 16
  arg : BitVec 32
  offs : BitVec 10
  cnt : BitVec 10
  seq : Sequencer
  /-- The bus trace since reset, oldest event first (R13). -/
  trace : List BusEvent
  /-- Whose turns come next; when it is empty the sequencer moves (log 4). -/
  agenda : List Turn
  /-- The card's next answers; when it is empty the oracle answers (log 3). -/
  card : List Byte
  /-- The values the host has read, oldest first (R13; log 13). -/
  reads : List HostRead
  /-- How many free values have been drawn (log 6). -/
  draws : Nat
  deriving DecidableEq, Repr

/-- The state after reset (R280, R22 to R38). -/
def State.reset : State where
  cfg := Config.default
  buf := []
  lastop := 0x00#8
  busy := false
  done := false
  fail := false
  sel := false
  clkfast := false
  err := .none
  resp := 0xFF#8
  dresp := 0xFF#8
  session := .uninitialized
  att := 0#16
  arg := 0#32
  offs := 0#10
  cnt := 0#10
  seq := Sequencer.reset
  trace := []
  agenda := []
  card := []
  reads := []
  draws := 0

end Sys2Proof.Machine
end

