-- ==== Sys2Proof/Machine/Ops.lean ====
section
/-! DEFINITION. The shared operations: BUF as memory, the bus primitives of 00_scope.md R11, the completion procedures of 40_protocol.md
R136 (Fail is the block's exception entry, 60_exceptions.md R247), taking up a request (R120, the return from a failure, R248), and reset. -/

namespace Sys2Proof.Machine

/-! ## Memory: BUF (10_state.md R34) -/

/-- The byte at an index, none where nothing was written since reset. -/
def Memory.read : List Host.Cell → Nat → Option Byte
  | [], _ => none
  | (k, v) :: rest, a => if k = a then some v else Memory.read rest a

/-- Store a byte, keeping the indices strictly rising. -/
def Memory.write : List Host.Cell → Nat → Byte → List Host.Cell
  | [], a, b => [(a, b)]
  | (k, v) :: rest, a, b =>
    if a < k then (a, b) :: (k, v) :: rest
    else if a = k then (a, b) :: rest
    else (k, v) :: Memory.write rest a b

/-- The canonical form: indices strictly rising and below 512. An unlisted byte has no value, so no listed byte equals it. -/
abbrev Memory.wf (m : List Host.Cell) : Prop :=
  (m.map Prod.fst).Pairwise (· < ·) ∧ ∀ c ∈ m, c.1 < 512

/-! ## Bus (R11) -/

/-- The byte the card answers to an exchange that sends `tx`: the next answer, or the oracle's (R5; log 3). -/
def State.answer (s : State) (tx : Byte) : Byte :=
  match s.card with
  | b :: _ => b
  | [] => Config.cardOracle s.draws s.trace tx

/-- `Exchange(tx)`, after which the sequencer stands at `p` with the received byte latched. -/
def exchangeAt (p : Pos) (tx : Byte) (s : State) : State :=
  { s with
    trace := s.trace ++ [.x tx (s.answer tx)]
    card := s.card.tail
    draws := s.draws + (if s.card.isEmpty then 1 else 0)
    seq := { s.seq with pos := p, rx := s.answer tx } }

/-- `Select()`. -/
def select (s : State) : State := { s with sel := true, trace := s.trace ++ [.sel] }

/-- `Deselect()`. -/
def deselect (s : State) : State := { s with sel := false, trace := s.trace ++ [.desel] }

/-- `SetClock(level)`. -/
def setClock (level : ClockLevel) (s : State) : State :=
  { s with clkfast := level == .fast, trace := s.trace ++ [.clk level] }

/-- `n <- n + 1`. -/
def countPoll (s : State) : State := { s with seq := { s.seq with n := s.seq.n + 1#16 } }

/-- `n <- 0`, at the start of a poll loop. -/
def clearPolls (s : State) : State := { s with seq := { s.seq with n := 0#16 } }

/-- `i <- v`, the byte index of a sector transfer. -/
def setIndex (v : BitVec 10) (s : State) : State := { s with seq := { s.seq with i := v } }

/-! ## Completion (R136) and acceptance (R120) -/

/-- `Succeed()`. No hidden value but LASTOP survives (R38; log 9). -/
def succeed (s : State) : State :=
  { s with busy := false, done := true, fail := false, err := .none, seq := Sequencer.reset }

/-- `raise Fail(code)`: taking the block's exception. Deselect if selected, no trailing filler. -/
def failWith (code : ErrCode) (s : State) : State :=
  { s with
    sel := false
    trace := if s.sel then s.trace ++ [.desel] else s.trace
    busy := false
    done := true
    fail := true
    err := code
    seq := Sequencer.reset }

/-- A request is taken up: LASTOP is set, DONE, FAIL and ERR are cleared, which is also how a failure is left (R248). -/
def takeUp (v : Byte) (s : State) : State :=
  { s with lastop := v &&& 0x77#8, done := false, fail := false, err := .none }

/-- `BUSY <- 1`: the sequencer stands before the operation's first statement. -/
def accept (op : Op) (s : State) : State :=
  { s with busy := true, seq := { s.seq with pos := .start op } }

/-- R120 for a request byte with OP other than 0: ignored while BUSY = 1, else taken up, and refused with the first check that
fails or begun. -/
def request (v : Byte) (check : State → Option ErrCode) (begin : State → State) (s : State) : State :=
  if s.busy then s
  else
    match check (takeUp v s) with
    | some code => failWith code (takeUp v s)
    | none => begin (takeUp v s)

/-! ## Reset (70_reset_and_hazards.md R280, R281) -/

/-- Every piece of the block's state takes its reset value; the configuration and the outside keep theirs (log 14). -/
def resetBlock (s : State) : State :=
  { State.reset with cfg := s.cfg, agenda := s.agenda, card := s.card, reads := s.reads, draws := s.draws }

end Sys2Proof.Machine
end

