-- ==== Sys2Proof/Machine/Operands.lean ====
section
/-! DEFINITION. Operand forms: CMDSEL, the argument of a block command, the RDPART window, the bytes of the multi-byte registers, the
encodings of SESSION and ERR, and the byte a WRITE sends. -/

namespace Sys2Proof.Machine

/-- CMDSEL, bits 6:4 of a request or of LASTOP (R81). -/
def cmdsel (v : Byte) : BitVec 3 := v.extractLsb' 4 3

/-- The command a CMDSEL value names (R83). -/
def cmdselCommand (c : BitVec 3) : Option Command :=
  match c.toNat with
  | 0 => some .goIdle
  | 1 => some .initCmd
  | 2 => some .appCmd
  | 3 => some .sdSendOpCond
  | 4 => some .readSingle
  | 5 => some .writeSingle
  | _ => none

/-- `cmd <- [GO_IDLE, INIT_CMD, APP_CMD, SD_SEND_OP_COND][CMDSEL]` (R123), CMDSEL 0 to 3. -/
def sendcmdCommand (v : Byte) : Command :=
  match (cmdsel v).toNat with
  | 0 => .goIdle
  | 1 => .initCmd
  | 2 => .appCmd
  | _ => .sdSendOpCond

/-- `(ARG << 9) mod 2^32` (R87). -/
def blockArgument (lba : BitVec 32) : BitVec 32 := lba <<< 9

/-- The sum OFFS + CNT, without wrap-around (R10, R186). -/
def windowEnd (s : State) : Nat := s.offs.toNat + s.cnt.toNat

/-- `OFFS <= i and i < OFFS + CNT` (R185). -/
def inWindow (s : State) (i : Nat) : Bool := s.offs.toNat ≤ i && i < windowEnd s

/-- SESSION is SDCard or MMCCard. -/
def sessionReady : Session → Bool
  | .sdCard | .mmcCard => true
  | .uninitialized | .poweringUp | .idleEntered | .negotiating | .failed => false

/-- The encoding of SESSION (R28). -/
def sessionCode : Session → Byte
  | .uninitialized => 0#8
  | .poweringUp => 1#8
  | .idleEntered => 2#8
  | .negotiating => 3#8
  | .sdCard => 4#8
  | .mmcCard => 5#8
  | .failed => 6#8

/-- The encoding of ERR (R241). -/
def errCode : ErrCode → Byte
  | .none => 0x0#8
  | .cmdTimeout => 0x1#8
  | .cmdRejected => 0x2#8
  | .tokenTimeout => 0x3#8
  | .tokenMismatch => 0x4#8
  | .wrCrcRejected => 0x5#8
  | .wrErrorRejected => 0x6#8
  | .wrRespTimeout => 0x7#8
  | .busyTimeout => 0x8#8
  | .idleFailed => 0x9#8
  | .initFailed => 0xA#8
  | .paramError => 0xB#8
  | .notReady => 0xC#8
  | .seqError => 0xD#8
  | .badOp => 0xE#8

/-- Byte k of a 32-bit register, byte 0 the least significant (R63). -/
def byteOf (w : BitVec 32) (k : Nat) : Byte := w.extractLsb' (8 * k) 8

/-- ARG with byte k replaced (R30, R63). -/
def withByte (w : BitVec 32) (k : Nat) (v : Byte) : BitVec 32 :=
  match k with
  | 0 => w.extractLsb' 8 24 ++ v
  | 1 => w.extractLsb' 16 16 ++ v ++ w.extractLsb' 0 8
  | 2 => w.extractLsb' 24 8 ++ v ++ w.extractLsb' 0 16
  | _ => v ++ w.extractLsb' 0 24

/-- The low byte of a 10-bit register (R31, R32). -/
def lowByte (w : BitVec 10) : Byte := w.extractLsb' 0 8

/-- The high byte of a 10-bit register: bits 1:0, bits 7:2 read 0 (R31). -/
def highByte (w : BitVec 10) : Byte := (w.extractLsb' 8 2).setWidth 8

/-- A 10-bit register with its low byte replaced. -/
def withLow (w : BitVec 10) (v : Byte) : BitVec 10 := w.extractLsb' 8 2 ++ v

/-- A 10-bit register with its high part replaced by bits 1:0 of a byte (R31). -/
def withHigh (w : BitVec 10) (v : Byte) : BitVec 10 := v.extractLsb' 0 2 ++ w.extractLsb' 0 8

/-- The value of a BUF byte the sequencer or the host reads: what was written, else a free value (R34; log 5). -/
def bufByte (s : State) (i : Nat) : Byte :=
  match Memory.read s.buf i with
  | some v => v
  | none => Config.freeByte s.draws

/-- A read of an unwritten BUF byte uses up one draw. -/
def bufDraw (s : State) (i : Nat) : State :=
  match Memory.read s.buf i with
  | some _ => s
  | none => { s with draws := s.draws + 1 }

/-- `BUF[i] <- v`. -/
def storeBuf (i : Nat) (v : Byte) (s : State) : State := { s with buf := Memory.write s.buf i v }

end Sys2Proof.Machine
end

