-- ==== Sys2Proof/Machine/Flags.lean ====
section
/-! DEFINITION. STATUS, the flag set of the block (10_state.md R24): its byte, computed from the flags and from the SEL and CLKFAST
outputs it copies. -/

namespace Sys2Proof.Machine

/-- STATUS: bit 0 BUSY, 1 DONE, 2 FAIL, 3 SEL, 4 CLKFAST, bits 7:5 read 0 (R24). -/
def statusByte (s : State) : Byte :=
  0#3 ++ BitVec.ofBool s.clkfast ++ BitVec.ofBool s.sel ++ BitVec.ofBool s.fail ++ BitVec.ofBool s.done
    ++ BitVec.ofBool s.busy

end Sys2Proof.Machine
end

