-- ==== Sys2Proof/Machine/HostPort.lean ====
section
/-! DEFINITION. The host's byte accesses other than a request (10_state.md R22 to R34, 20_memory.md R65 to R70). -/

namespace Sys2Proof.Machine

/-- A register at an address 0x200 to 0x3FF (R22); reserved addresses read 0x00 (R33). -/
def registerByte (s : State) (a : Nat) : Byte :=
  match a with
  | 0x200 => s.lastop
  | 0x201 => statusByte s
  | 0x202 => errCode s.err
  | 0x203 => s.resp
  | 0x204 => s.dresp
  | 0x205 => sessionCode s.session
  | 0x206 => s.att.extractLsb' 0 8
  | 0x207 => s.att.extractLsb' 8 8
  | 0x208 => byteOf s.arg 0
  | 0x209 => byteOf s.arg 1
  | 0x20A => byteOf s.arg 2
  | 0x20B => byteOf s.arg 3
  | 0x20C => lowByte s.offs
  | 0x20D => highByte s.offs
  | 0x20E => lowByte s.cnt
  | 0x20F => highByte s.cnt
  | _ => 0x00#8

/-- The value of a host read. A BUF byte read while BUSY = 1 is any value (R69), and so is one nothing has written (R34). -/
def hostReadValue (s : State) (a : BitVec 10) : Byte :=
  if a.toNat < 512 then (if s.busy then Config.freeByte s.draws else bufByte s a.toNat) else registerByte s a.toNat

/-- Whether a host read draws a free value. -/
def hostReadDraws (s : State) (a : BitVec 10) : Bool :=
  a.toNat < 512 && (s.busy || (Memory.read s.buf a.toNat).isNone)

/-- `MemRead(a, 1)`: the host receives the value; the block does not change (R67). -/
def hostRead (a : BitVec 10) (s : State) : State :=
  { s with
    reads := s.reads ++ [{ addr := a, value := hostReadValue s a }]
    draws := s.draws + (if hostReadDraws s a then 1 else 0) }

/-- A store to a register at an address 0x200 to 0x3FF while BUSY = 0. Read-only and reserved addresses ignore it (R22, R33), and
OPREQ stores nothing here: a write of it is a request (R23). -/
def storeRegister (a : Nat) (v : Byte) (s : State) : State :=
  match a with
  | 0x208 => { s with arg := withByte s.arg 0 v }
  | 0x209 => { s with arg := withByte s.arg 1 v }
  | 0x20A => { s with arg := withByte s.arg 2 v }
  | 0x20B => { s with arg := withByte s.arg 3 v }
  | 0x20C => { s with offs := withLow s.offs v }
  | 0x20D => { s with offs := withHigh s.offs v }
  | 0x20E => { s with cnt := withLow s.cnt v }
  | 0x20F => { s with cnt := withHigh s.cnt v }
  | _ => s

/-- `MemWrite(a, 1, v)` to an address other than OPREQ: no effect while BUSY = 1 (R69). -/
def hostWrite (a : BitVec 10) (v : Byte) (s : State) : State :=
  if s.busy then s
  else if a.toNat < 512 then storeBuf a.toNat v s
  else storeRegister a.toNat v s

/-- One host access; a width other than one byte is refused (R65). -/
def hostAccess (access : HostAccess) (s : State) : Host.Outcome State Fault Refusal :=
  match access with
  | .read a 1 => .next (hostRead a s)
  | .write a 1 v => .next (hostWrite a v s)
  | .read _ _ => .refused .accessWidth
  | .write _ _ _ => .refused .accessWidth

/-- `WAIT` (30_encoding.md R97): read STATUS; while BUSY = 1 the sequencer moves and the host waits again (log 15). -/
def hostWait (s : State) : State :=
  let t := hostRead 0x201#10 s
  if s.busy then { t with agenda := .sequencer :: .wait :: t.agenda } else t

end Sys2Proof.Machine
end

