-- ==== Sys2Proof/Machine/CommandFrame.lean ====
section
/-! DEFINITION. SendCommand's frame (40_protocol.md R124): the meanings of the six command frames (R130 to R135), each the start of
`SendCommand(CMD_BYTE[c], arg)`, and the exchanges of the rest of the frame. -/

namespace Sys2Proof.Machine

/-- The start of `SendCommand(CMD_BYTE[c], arg)`: its parameters are latched and byte 0 of the frame is sent (R124, R85). -/
def beginFrame (c : Command) (arg : BitVec 32) (s : State) : State :=
  exchangeAt (.frame 1) (frameByte (frameWord (s.cfg.cmdByte c) arg) 0)
    { s with seq := { s.seq with cmd := c, arg := arg } }

/-- R130. -/
def execGoIdle (arg : BitVec 32) (s : State) : Host.Outcome State Fault Refusal := .next (beginFrame .goIdle arg s)

/-- R131. -/
def execInitCmd (arg : BitVec 32) (s : State) : Host.Outcome State Fault Refusal := .next (beginFrame .initCmd arg s)

/-- R132. -/
def execAppCmd (arg : BitVec 32) (s : State) : Host.Outcome State Fault Refusal := .next (beginFrame .appCmd arg s)

/-- R133. -/
def execSdSendOpCond (arg : BitVec 32) (s : State) : Host.Outcome State Fault Refusal :=
  .next (beginFrame .sdSendOpCond arg s)

/-- R134. -/
def execReadSingle (arg : BitVec 32) (s : State) : Host.Outcome State Fault Refusal :=
  .next (beginFrame .readSingle arg s)

/-- R135. -/
def execWriteSingle (arg : BitVec 32) (s : State) : Host.Outcome State Fault Refusal :=
  .next (beginFrame .writeSingle arg s)

/-- `(r, t) <- SendCommand(CMD_BYTE[c], arg)` called from a site: the return point is latched and the frame begins. -/
def callCommand (caller : Caller) (c : Command) (arg : BitVec 32) (s : State) : State :=
  beginFrame c arg { s with seq := { s.seq with caller := caller } }

/-- After `sent` bytes of the frame: the next byte, or after all six the first response poll with `n <- 0` (R124, R125). -/
def continueFrame (sent : Nat) (s : State) : State :=
  if sent < 6 then
    exchangeAt (.frame (sent + 1)) (frameByte (frameWord (s.cfg.cmdByte s.seq.cmd) s.seq.arg) sent) s
  else exchangeAt .respPoll fillerByte (clearPolls s)

end Sys2Proof.Machine
end

