-- ==== Sys2Proof/Machine/Session.lean ====
section
/-! DEFINITION. The card-session state machine, INIT's sequence (41_session.md R150 to R158). -/

namespace Sys2Proof.Machine

/-- The head of step 2's loop: out of attempts, or one more GO_IDLE (R152). -/
def attemptIdle (s : State) : State :=
  if s.att.toNat = s.cfg.idleAttempts then failWith .idleFailed { s with session := .failed }
  else callCommand .initIdle .goIdle 0#32 { s with att := s.att + 1#16 }

/-- The head of step 3's loop: out of attempts, or one more INIT_CMD (R153). -/
def attemptInit (s : State) : State :=
  if s.att.toNat = s.cfg.initAttempts then failWith .initFailed { s with session := .failed }
  else callCommand .initInit .initCmd 0#32 { s with att := s.att + 1#16 }

/-- Step 1 begins: PoweringUp, slow clock, deselected, first filler byte (R151). -/
def beginInit (s : State) : State :=
  let t := deselect (setClock .slow { s with session := .poweringUp })
  exchangeAt .filler fillerByte { t with seq := { t.seq with j := 1#16 } }

/-- After j filler bytes: one more, or step 2 (R151, R152). -/
def continueFiller (s : State) : State :=
  if s.seq.j.toNat < s.cfg.powerupFillerBytes then
    exchangeAt .filler fillerByte { s with seq := { s.seq with j := s.seq.j + 1#16 } }
  else
    let t := select s
    attemptIdle { t with att := 0#16 }

/-- After a GO_IDLE of step 2: IdleEntered and step 3, or the loop again (R152). -/
def afterIdle (s : State) : State :=
  if s.seq.r = s.cfg.idleOk then attemptInit { s with session := .idleEntered, att := 0#16 } else attemptIdle s

/-- After an INIT_CMD of step 3: Negotiating and step 4, or the loop again (R153, R154). -/
def afterInit (s : State) : State :=
  if s.seq.r = okByte then callCommand .initApp .appCmd 0#32 { s with session := .negotiating } else attemptInit s

/-- The end of INIT: deselect, then the clock level and SESSION, then Succeed (R155, R156). -/
def finishInit (sd : Bool) (s : State) : State :=
  let t := deselect s
  if sd then
    let u := setClock .fast t
    succeed { u with session := .sdCard }
  else
    let u := if t.cfg.mmcFastClock then setClock .fast t else t
    succeed { u with session := .mmcCard }

/-- After step 4's APP_CMD (R154): SD_SEND_OP_COND only after an OK response. -/
def afterApp (s : State) : State :=
  if s.seq.r = okByte then callCommand .initOpCond .sdSendOpCond 0#32 s else finishInit false s

end Sys2Proof.Machine
end

