-- ==== Sys2Proof/Machine/Response.lean ====
section
/-! DEFINITION. The response poll of SendCommand and its return to the caller (40_protocol.md R123, R125 to R129): the meanings of the
command-response bytes (30_encoding.md R90). -/

namespace Sys2Proof.Machine

/-- The check of a block command's response (R180, R185, R210): a timeout, a rejection, or the rest of the operation. -/
def checkBlockResponse (rest : State → State) (s : State) : State :=
  if s.seq.timedout then failWith .cmdTimeout s
  else if s.seq.r = okByte then rest s
  else failWith .cmdRejected s

/-- `TokenWait()` begins: `n <- 0` and the first poll, since the budget is at least 1 (R181, R8). -/
def beginTokenWait (s : State) : State := exchangeAt .tokenPoll fillerByte (clearPolls s)

/-- The data phase of a WRITE begins with the dummy byte (R211). -/
def beginWriteData (s : State) : State := exchangeAt .writeDummy fillerByte s

/-- SendCommand returns (r, timedout) to its caller. -/
def returnCommand (s : State) : State :=
  match s.seq.caller with
  | .sendcmd => if s.seq.timedout then failWith .cmdTimeout s else succeed (deselect s)
  | .initIdle => afterIdle s
  | .initInit => afterInit s
  | .initApp => afterApp s
  | .initOpCond => finishInit (s.seq.r == okByte) s
  | .read => checkBlockResponse beginTokenWait s
  | .rdpart => checkBlockResponse beginTokenWait s
  | .write => checkBlockResponse beginWriteData s

/-- A response byte x: RESP and r take it, and the dummy exchange is made (R125, R126). -/
def gotResponse (x : Byte) (s : State) : State :=
  let t := countPoll s
  exchangeAt .respDummy fillerByte
    { t with resp := x, seq := { t.seq with r := x, timedout := false } }

/-- A not-ready byte: poll again, or after RESP_POLL_BUDGET polls time out with RESP = 0xFF and no dummy exchange (R125, R127). -/
def noResponse (s : State) : State :=
  let t := countPoll s
  if t.seq.n.toNat < t.cfg.respPollBudget then exchangeAt .respPoll fillerByte t
  else returnCommand { t with resp := notReadyByte, seq := { t.seq with r := notReadyByte, timedout := true } }

/-- R90: 0xFF at the command response site. -/
def execRespNotReady (s : State) : Host.Outcome State Fault Refusal := .next (noResponse s)

/-- R90: 0x00 at the command response site. -/
def execRespOk (s : State) : Host.Outcome State Fault Refusal := .next (gotResponse okByte s)

/-- R90: IDLE_OK at the command response site. -/
def execRespIdleOk (s : State) : Host.Outcome State Fault Refusal := .next (gotResponse s.cfg.idleOk s)

/-- R90: any other byte at the command response site, a card-reported error bitmap. -/
def execRespError (x : Byte) (s : State) : Host.Outcome State Fault Refusal := .next (gotResponse x s)

end Sys2Proof.Machine
end

