-- ==== Sys2Proof/Machine/BlockRead.lean ====
section
/-! DEFINITION. The data-start token verifier and the read data phase (42_block_read.md R180 to R189). -/

namespace Sys2Proof.Machine

/-- The data phase follows: data byte 0 of the running READ or RDPART. -/
def dataPos (c : Caller) : Pos :=
  match c with
  | .rdpart => .partData
  | _ => .readData

/-- R91, R181: the token matched; the first data byte is received. -/
def tokenMatched (s : State) : State :=
  exchangeAt (dataPos s.seq.caller) fillerByte (setIndex 0#10 (countPoll s))

/-- R91: 0xFE at the token site. -/
def execDataToken (s : State) : Host.Outcome State Fault Refusal := .next (tokenMatched s)

/-- The head of TokenWait's loop after a poll that did not match (R181). -/
def pollToken (s : State) : State :=
  if s.seq.n.toNat = s.cfg.tokenPollBudget then failWith .tokenTimeout s else exchangeAt .tokenPoll fillerByte s

/-- R181: 0xFF at the token site. -/
def tokenNotReady (s : State) : State := pollToken (countPoll s)

/-- R181: a byte other than 0xFF and 0xFE at the token site is skipped or is a mismatch, as TOKEN_MATCH_MODE says. -/
def tokenOther (s : State) : State :=
  match s.cfg.tokenMatchMode with
  | .skipUntilFe => pollToken (countPoll s)
  | .firstNonFf => failWith .tokenMismatch (countPoll s)

/-- After data byte i: the next data byte, or after 512 the first checksum byte (R182, R183). -/
def nextData (p : Pos) (s : State) : State :=
  if s.seq.i.toNat < 511 then exchangeAt p fillerByte (setIndex (s.seq.i + 1#10) s)
  else exchangeAt .crcFirst fillerByte s

/-- READ: `BUF[i] <- Exchange(0xFF)` (R180, R182). -/
def storeReadData (s : State) : State := nextData .readData (storeBuf s.seq.i.toNat s.seq.rx s)

/-- RDPART: the byte is kept when it lies in the window (R185). -/
def storePartData (s : State) : State :=
  let i := s.seq.i.toNat
  nextData .partData (if inWindow s i then storeBuf (i - s.offs.toNat) s.seq.rx s else s)

end Sys2Proof.Machine
end

