-- ==== Sys2Proof/Machine/BlockWrite.lean ====
section
/-! DEFINITION. The write data phase, the data-response verifier and the busy wait (43_block_write.md R210 to R215). -/

namespace Sys2Proof.Machine

/-- `Exchange(BUF[i])` (R211). -/
def sendData (s : State) : State :=
  exchangeAt .writeData (bufByte s s.seq.i.toNat) (bufDraw s s.seq.i.toNat)

/-- After the token: data byte 0. -/
def beginSendData (s : State) : State := sendData (setIndex 0#10 s)

/-- After data byte i: the next one, or after 512 DataResponseWait with `n <- 0` (R211, R212). -/
def continueSendData (s : State) : State :=
  if s.seq.i.toNat < 511 then sendData (setIndex (s.seq.i + 1#10) s)
  else exchangeAt .drespPoll fillerByte (clearPolls s)

/-- A data-response poll is counted and DRESP takes its byte (R212). -/
def latchDataResponse (d : Byte) (s : State) : State :=
  let t := countPoll s
  { t with dresp := d }

/-- R92, R212, R213: accepted; BusyWait begins with `n <- 0`. -/
def execDrespAccepted (hi : BitVec 4) (s : State) : Host.Outcome State Fault Refusal :=
  .next (exchangeAt .busyPoll fillerByte (clearPolls (latchDataResponse (hi ++ 0x5#4) s)))

/-- R92, R212: CRC rejected. -/
def execDrespCrcRejected (hi : BitVec 4) (s : State) : Host.Outcome State Fault Refusal :=
  .next (failWith .wrCrcRejected (latchDataResponse (hi ++ 0xB#4) s))

/-- R92, R212: write error. -/
def execDrespWriteError (hi : BitVec 4) (s : State) : Host.Outcome State Fault Refusal :=
  .next (failWith .wrErrorRejected (latchDataResponse (hi ++ 0xD#4) s))

/-- R212: any other low nibble; poll again or time out. -/
def dataResponseNotYet (s : State) : State :=
  let t := latchDataResponse s.seq.rx s
  if t.seq.n.toNat = t.cfg.wrespPollBudget then failWith .wrRespTimeout t else exchangeAt .drespPoll fillerByte t

/-- R93, R213: 0x00 at the busy site; poll again or time out. -/
def cardBusy (s : State) : State :=
  let t := countPoll s
  if t.seq.n.toNat = t.cfg.busyPollBudget then failWith .busyTimeout t else exchangeAt .busyPoll fillerByte t

/-- R93, R213. -/
def execBusy (s : State) : Host.Outcome State Fault Refusal := .next (cardBusy s)

/-- R213, R214: a non-zero byte at the busy site; the trailing filler byte is sent. -/
def cardReady (s : State) : State := exchangeAt .trailer fillerByte (countPoll s)

end Sys2Proof.Machine
end

