-- ==== Sys2Proof/Machine/Request.lean ====
section
/-! DEFINITION. The meanings of the nine request rows: acceptance, one atomic host step (40_protocol.md R120 to R123, R245). The
accepted operation then runs in the sequencer's steps. -/

namespace Sys2Proof.Machine

/-- R121: the write is ignored. -/
def execNop (_ignored : BitVec 5) (s : State) : Host.Outcome State Fault Refusal := .next s

/-- R150, R120: only from Uninitialized. -/
def execInit (ignored : BitVec 5) (s : State) : Host.Outcome State Fault Refusal :=
  .next (request (requestByte ignored 1#3) (fun t => if t.session = .uninitialized then none else some .seqError)
    (accept .init) s)

/-- R123, R120: CMDSEL 0 to 3, in every session state. -/
def execSendcmd (sel : BitVec 3) (r7 r3 : BitVec 1) (s : State) : Host.Outcome State Fault Refusal :=
  .next (request (sendcmdByte sel r7 r3) (fun _ => if sel.toNat < 4 then none else some .paramError)
    (accept .sendcmd) s)

/-- R120, R83: CMDSEL 4 to 7 is refused. -/
def execSendcmdBadsel (sel : BitVec 3) (r7 r3 : BitVec 1) (s : State) : Host.Outcome State Fault Refusal :=
  .next (request (sendcmdByte sel r7 r3) (fun _ => some .paramError) (accept .sendcmd) s)

/-- R180, R120: only in SDCard or MMCCard. -/
def execRead (ignored : BitVec 5) (s : State) : Host.Outcome State Fault Refusal :=
  .next (request (requestByte ignored 3#3) (fun t => if sessionReady t.session then none else some .notReady)
    (accept .read) s)

/-- R185, R186, R120: the session check, then the window check. -/
def execRdpart (ignored : BitVec 5) (s : State) : Host.Outcome State Fault Refusal :=
  .next (request (requestByte ignored 4#3)
    (fun t => if sessionReady t.session then (if windowEnd t ≤ 512 then none else some .paramError) else some .notReady)
    (accept .rdpart) s)

/-- R210, R120: acceptance sets DRESP to 0xFF. -/
def execWrite (ignored : BitVec 5) (s : State) : Host.Outcome State Fault Refusal :=
  .next (request (requestByte ignored 5#3) (fun t => if sessionReady t.session then none else some .notReady)
    (fun t => accept .write { t with dresp := 0xFF#8 }) s)

/-- R122. -/
def execReserved6 (ignored : BitVec 5) (s : State) : Host.Outcome State Fault Refusal :=
  .next (request (requestByte ignored 6#3) (fun _ => some .badOp) id s)

/-- R122. -/
def execReserved7 (ignored : BitVec 5) (s : State) : Host.Outcome State Fault Refusal :=
  .next (request (requestByte ignored 7#3) (fun _ => some .badOp) id s)

end Sys2Proof.Machine
end

