-- ==== Sys2Proof/Machine/Sequencer.lean ====
section
/-! DEFINITION. Whose turn it is and what it runs: the sequencer's statements that are no row of the opcode table (00_scope.md R12), and
the fetch, which reads a request from a host write of OPREQ, a frame from the sequencer's position, or a received byte at its site. -/

namespace Sys2Proof.Machine

/-- The first statements of an accepted operation (R150, R123, R180, R185, R210). -/
def beginOperation (op : Op) (s : State) : State :=
  match op with
  | .init => beginInit s
  | .sendcmd => callCommand .sendcmd (sendcmdCommand s.lastop) s.arg (select s)
  | .read => callCommand .read .readSingle (blockArgument s.arg) (select s)
  | .rdpart => callCommand .rdpart .readSingle (blockArgument s.arg) (select s)
  | .write => callCommand .write .writeSingle (blockArgument s.arg) (select s)

/-- The sequencer's step at a position. The positions at a site with a received byte, and the start of a frame, are instructions
of the opcode table and reach this function only for bytes without a row. -/
def advance (s : State) : State :=
  match s.seq.pos with
  | .idle => s
  | .start op => beginOperation op s
  | .filler => continueFiller s
  | .frame sent => continueFrame sent s
  | .respPoll => s
  | .respDummy => returnCommand s
  | .tokenPoll => s
  | .readData => storeReadData s
  | .partData => storePartData s
  | .crcFirst => exchangeAt .crcSecond fillerByte s
  | .crcSecond => exchangeAt .trailer fillerByte s
  | .trailer => succeed (deselect s)
  | .writeDummy => exchangeAt .writeToken dataStartToken s
  | .writeToken => beginSendData s
  | .writeData => continueSendData s
  | .drespPoll => s
  | .busyPoll => s

/-- A received byte without a row in the opcode table, at its site (R91 to R93). -/
def receiveUnlisted (u : Unlisted) (s : State) : State :=
  match u with
  | .tokenNotReady => tokenNotReady s
  | .tokenOther => tokenOther s
  | .dataResponseNotYet => dataResponseNotYet s
  | .cardReady => cardReady s

/-- What a turn does that is no row of the opcode table. -/
inductive Chore where
  /-- A received byte without a row. -/
  | unlisted (u : Unlisted)
  /-- Statements of the running operation that are no row. -/
  | statements
  /-- A host access other than a request. -/
  | access (a : HostAccess)
  /-- The host's WAIT. -/
  | wait
  | reset
  /-- BUSY and the position disagree (R37). -/
  | incoherent
  deriving DecidableEq, Repr

/-- What a turn runs: a row of the opcode table, or something else. -/
inductive Work where
  | instr (i : Instr)
  | chore (c : Chore)
  deriving DecidableEq, Repr

/-- The site at which the sequencer stands with a received byte. -/
def siteOf (p : Pos) : Option Site :=
  match p with
  | .respPoll => some .response
  | .tokenPoll => some .token
  | .drespPoll => some .dataResponse
  | .busyPoll => some .busy
  | .idle | .start _ | .filler | .frame _ | .respDummy | .readData | .partData | .crcFirst | .crcSecond | .trailer
  | .writeDummy | .writeToken | .writeData => none

/-- R37: the position is IDLE exactly when BUSY = 0. -/
def coherent (s : State) : Bool := s.busy == (s.seq.pos != .idle)

/-- The sequencer's turn. -/
def sequencerWork (s : State) : Work :=
  if coherent s then
    match siteOf s.seq.pos with
    | some site =>
      match decodeReceived s.cfg site s.seq.rx with
      | .ok i => .instr i
      | .error u => .chore (.unlisted u)
    | none =>
      if s.seq.pos = .frame 0 then .instr (frameInstr s.seq.cmd s.seq.arg) else .chore .statements
  else .chore .incoherent

/-- The host's turn: a one-byte write of OPREQ (0x200) is a request (R120). -/
def hostWork (a : HostAccess) : Work :=
  match a with
  | .write addr 1 v => if addr = 0x200#10 then .instr (decodeRequest v) else .chore (.access (.write addr 1 v))
  | .write addr w v => .chore (.access (.write addr w v))
  | .read addr w => .chore (.access (.read addr w))

/-- The next turn's work, and the state with that turn taken from the agenda. -/
def fetch (s : State) : Work × State :=
  match s.agenda with
  | [] => (sequencerWork s, s)
  | turn :: rest =>
    let t := { s with agenda := rest }
    match turn with
    | .sequencer => (sequencerWork t, t)
    | .host a => (hostWork a, t)
    | .wait => (.chore .wait, t)
    | .reset => (.chore .reset, t)

/-- The turns that run no row of the opcode table. -/
def perform (c : Chore) (s : State) : Host.Outcome State Fault Refusal :=
  match c with
  | .unlisted u => .next (receiveUnlisted u s)
  | .statements => .next (advance s)
  | .access a => hostAccess a s
  | .wait => .next (hostWait s)
  | .reset => .next (resetBlock s)
  | .incoherent => .fault .incoherentSequencer

/-- The return point that goes with a frame that stands alone: the operation that sends the command (R86). -/
def frameCaller (c : Command) : Caller :=
  match c with
  | .readSingle => .read
  | .writeSingle => .write
  | .goIdle | .initCmd | .appCmd | .sdSendOpCond => .sendcmd

/-- The state with a request byte as the next host access. -/
def placeRequest (v : Byte) (s : State) : State := { s with agenda := .host (.write 0x200#10 1 v) :: s.agenda }

/-- The state with the sequencer's turn next, standing before the first exchange of a frame. -/
def placeFrame (c : Command) (arg : BitVec 32) (s : State) : State :=
  { s with
    agenda := .sequencer :: s.agenda
    busy := true
    done := false
    fail := false
    err := .none
    seq := { s.seq with pos := .frame 0, caller := frameCaller c, cmd := c, arg := arg } }

/-- The state in which the very next step fetches the word, as spec/opcode_table.json numbers it (log 10, 11, 22). -/
def placeWord (s : State) (nbits w : Nat) : State :=
  if nbits = 8 then placeRequest (BitVec.ofNat 8 w) s
  else
    let f : FrameWord := BitVec.ofNat 48 w
    if nbits = 48 ∧ f.extractLsb' 0 8 = trailerByte then
      match commandOf s.cfg (f.extractLsb' 40 8) with
      | some c => placeFrame c (f.extractLsb' 8 32) s
      | none => s
    else s

end Sys2Proof.Machine
end

