-- ==== Sys2Proof/Machine/Dispatch.lean ====
section
/-! DEFINITION. The meaning of every row of the opcode table, one arm per constructor. -/

namespace Sys2Proof.Machine

def exec (i : Instr) (s : State) : Host.Outcome State Fault Refusal :=
  match i with
  -- request byte, 40_protocol.md R120
  | .nop ignored => Sys2Proof.Machine.execNop ignored s
  | .init ignored => Sys2Proof.Machine.execInit ignored s
  | .sendcmd sel r7 r3 => Sys2Proof.Machine.execSendcmd sel r7 r3 s
  | .sendcmdBadsel sel r7 r3 => Sys2Proof.Machine.execSendcmdBadsel sel r7 r3 s
  | .read ignored => Sys2Proof.Machine.execRead ignored s
  | .rdpart ignored => Sys2Proof.Machine.execRdpart ignored s
  | .write ignored => Sys2Proof.Machine.execWrite ignored s
  | .reserved6 ignored => Sys2Proof.Machine.execReserved6 ignored s
  | .reserved7 ignored => Sys2Proof.Machine.execReserved7 ignored s
  -- command frame, 40_protocol.md R124, R130 to R135
  | .goIdle arg => Sys2Proof.Machine.execGoIdle arg s
  | .initCmd arg => Sys2Proof.Machine.execInitCmd arg s
  | .appCmd arg => Sys2Proof.Machine.execAppCmd arg s
  | .sdSendOpCond arg => Sys2Proof.Machine.execSdSendOpCond arg s
  | .readSingle arg => Sys2Proof.Machine.execReadSingle arg s
  | .writeSingle arg => Sys2Proof.Machine.execWriteSingle arg s
  -- received byte, 30_encoding.md R90 to R93
  | .respNotReady => Sys2Proof.Machine.execRespNotReady s
  | .respOk => Sys2Proof.Machine.execRespOk s
  | .respIdleOk => Sys2Proof.Machine.execRespIdleOk s
  | .respError x => Sys2Proof.Machine.execRespError x s
  | .dataToken => Sys2Proof.Machine.execDataToken s
  | .drespAccepted hi => Sys2Proof.Machine.execDrespAccepted hi s
  | .drespCrcRejected hi => Sys2Proof.Machine.execDrespCrcRejected hi s
  | .drespWriteError hi => Sys2Proof.Machine.execDrespWriteError hi s
  | .busy => Sys2Proof.Machine.execBusy s

end Sys2Proof.Machine
end

