-- ==== Sys2Proof/Machine/Step.lean ====
section
/-! DEFINITION. One step: one turn of the host, the sequencer or reset (00_scope.md R12). -/

namespace Sys2Proof.Machine

/-- A configuration out of range is refused (R8); else the next turn's work is done. -/
def step (s : State) : Host.Outcome State Fault Refusal :=
  if s.cfg.legal then
    match fetch s with
    | (.instr i, t) => exec i t
    | (.chore c, t) => perform c t
  else .refused .illegalConfiguration

/-- `s` with the word placed where the next step fetches its instruction. -/
def State.withFetchWord (s : State) (nbits w : Nat) : State := placeWord s nbits w

end Sys2Proof.Machine
end

