-- ==== Sys2Proof/Machine/HostProgram.lean ====
section
/-! DEFINITION. Host programs: the syntax of 30_encoding.md R96 and the pseudo-instructions of R97, as the turns they stand for. -/

namespace Sys2Proof.Machine.HostProgram

/-- `WR addr, val`. -/
def wr (addr : BitVec 10) (val : Byte) : Turn := .host (.write addr 1 val)

/-- `RD addr -> name`. -/
def rd (addr : BitVec 10) : Turn := .host (.read addr 1)

/-- `NOP`. -/
def nop : List Turn := [wr 0x200#10 0x00#8]
/-- `INIT`. -/
def init : List Turn := [wr 0x200#10 0x01#8]
/-- `SENDCMD c`: `WR 0x200, (c << 4) | 0x02`. -/
def sendcmd (c : BitVec 3) : List Turn := [wr 0x200#10 (sendcmdByte c 0#1 0#1)]
/-- `READ`. -/
def read : List Turn := [wr 0x200#10 0x03#8]
/-- `RDPART`. -/
def rdpart : List Turn := [wr 0x200#10 0x04#8]
/-- `WRITE`. -/
def write : List Turn := [wr 0x200#10 0x05#8]

/-- `LDARG v`. -/
def ldarg (v : BitVec 32) : List Turn :=
  [wr 0x208#10 (v.extractLsb' 0 8), wr 0x209#10 (v.extractLsb' 8 8), wr 0x20A#10 (v.extractLsb' 16 8),
    wr 0x20B#10 (v.extractLsb' 24 8)]

/-- `LDOFFS v`. -/
def ldoffs (v : BitVec 10) : List Turn :=
  [wr 0x20C#10 (v.extractLsb' 0 8), wr 0x20D#10 ((v.extractLsb' 8 2).setWidth 8)]

/-- `LDCNT v`. -/
def ldcnt (v : BitVec 10) : List Turn :=
  [wr 0x20E#10 (v.extractLsb' 0 8), wr 0x20F#10 ((v.extractLsb' 8 2).setWidth 8)]

/-- `WAIT`. -/
def wait : List Turn := [.wait]

/-- `FILL v`: `WR i, v` for i = 0x000 to 0x1FF in order. -/
def fill (v : Byte) : List Turn := (List.range 512).map fun i => wr (BitVec.ofNat 10 i) v

end Sys2Proof.Machine.HostProgram
end

