-- ==== Sys2Proof/Safety.lean ====
section
/-! DEFINITION. What a state of this block looks like in every run (`BlockInv`), which session changes exist (41_session.md R159), and when a
step cannot stop (`Safe`). -/

namespace Sys2Proof.Machine

/-- The session states that exist only while INIT runs (R159). -/
def sessionTransient : Session → Bool
  | .poweringUp | .idleEntered | .negotiating => true
  | .uninitialized | .sdCard | .mmcCard | .failed => false

/-- The session state in which a call site of SendCommand runs (R120, R150). -/
def callerSession (c : Caller) (x : Session) : Bool :=
  match c with
  | .sendcmd => !sessionTransient x
  | .initIdle => x == .poweringUp
  | .initInit => x == .idleEntered
  | .initApp | .initOpCond => x == .negotiating
  | .read | .rdpart | .write => sessionReady x

/-- Which return point and session state go with a position (R37, R120, R150, R159). -/
def placeFits (p : Pos) (c : Caller) (x : Session) : Bool :=
  match p with
  | .idle | .start .sendcmd => !sessionTransient x
  | .start .init => x == .uninitialized
  | .start .read | .start .rdpart | .start .write => sessionReady x
  | .filler => x == .poweringUp
  | .frame _ | .respPoll | .respDummy => callerSession c x
  | .tokenPoll | .crcFirst | .crcSecond => (c == .read || c == .rdpart) && sessionReady x
  | .readData => c == .read && sessionReady x
  | .partData => c == .rdpart && sessionReady x
  | .trailer => (c == .read || c == .rdpart || c == .write) && sessionReady x
  | .writeDummy | .writeToken | .writeData | .drespPoll | .busyPoll => c == .write && sessionReady x

/-- The operation a call site belongs to. -/
def callerOp : Caller → Op
  | .sendcmd => .sendcmd
  | .initIdle | .initInit | .initApp | .initOpCond => .init
  | .read => .read
  | .rdpart => .rdpart
  | .write => .write

/-- The operation that runs at a position (R37). -/
def runningOp (p : Pos) (c : Caller) : Option Op :=
  match p with
  | .idle => none
  | .start op => some op
  | .filler => some .init
  | .frame _ | .respPoll | .respDummy | .tokenPoll | .readData | .partData | .crcFirst | .crcSecond | .trailer
  | .writeDummy | .writeToken | .writeData | .drespPoll | .busyPoll => some (callerOp c)

/-- OP of an operation (R82). -/
def opField : Op → BitVec 3
  | .init => 1#3
  | .sendcmd => 2#3
  | .read => 3#3
  | .rdpart => 4#3
  | .write => 5#3

/-- Every counter is inside its loop's bound (R8, R125, R150 to R153, R181, R182, R212, R213). -/
def countersFit (s : State) : Bool :=
  match s.seq.pos with
  | .filler => 1 ≤ s.seq.j.toNat && s.seq.j.toNat ≤ s.cfg.powerupFillerBytes
  | .frame sent => sent ≤ 6
  | .respPoll => s.seq.n.toNat < s.cfg.respPollBudget
  | .tokenPoll => s.seq.n.toNat < s.cfg.tokenPollBudget
  | .drespPoll => s.seq.n.toNat < s.cfg.wrespPollBudget
  | .busyPoll => s.seq.n.toNat < s.cfg.busyPollBudget
  | .readData | .partData | .writeData => s.seq.i.toNat < 512
  | .idle | .start _ | .respDummy | .crcFirst | .crcSecond | .trailer | .writeDummy | .writeToken => true

/-- While a command of session step 2 or 3 runs, ATT counts it within its budget (R152, R153, R158). -/
def attemptsFit (s : State) : Bool :=
  match s.seq.pos with
  | .frame _ | .respPoll | .respDummy =>
    match s.seq.caller with
    | .initIdle => 1 ≤ s.att.toNat && s.att.toNat ≤ s.cfg.idleAttempts
    | .initInit => 1 ≤ s.att.toNat && s.att.toNat ≤ s.cfg.initAttempts
    | .sendcmd | .initApp | .initOpCond | .read | .rdpart | .write => true
  | .idle | .start _ | .filler | .tokenPoll | .readData | .partData | .crcFirst | .crcSecond | .trailer
  | .writeDummy | .writeToken | .writeData | .drespPoll | .busyPoll => true

/-- What holds at reset and after every step. -/
structure BlockInv (s : State) : Prop where
  /-- BUF is in canonical form. -/
  bufCanonical : Memory.wf s.buf
  /-- R37: IDLE exactly when BUSY = 0. -/
  positionCoherent : coherent s = true
  /-- R136, R290: SEL = 1 only while BUSY = 1. -/
  selOnlyBusy : s.sel = true → s.busy = true
  /-- R24: BUSY = 1 implies DONE = 0 and FAIL = 0. -/
  busyNotDone : s.busy = true → s.done = false ∧ s.fail = false
  /-- R24: FAIL = 1 implies DONE = 1. -/
  failDone : s.fail = true → s.done = true
  /-- R24, R25: ERR names why exactly when FAIL = 1. -/
  errNamed : (s.fail = true ↔ s.err ≠ .none)
  /-- R23: LASTOP has bits 7 and 3 as 0. -/
  lastopReserved : s.lastop &&& 0x88#8 = 0#8
  /-- R38: LASTOP is the operation that runs. -/
  lastopRuns : ∀ op, runningOp s.seq.pos s.seq.caller = some op → s.lastop.extractLsb' 0 3 = opField op
  /-- R120, R123: a SENDCMD that was accepted has CMDSEL 0 to 3. -/
  sendcmdAllowed : s.seq.pos = .start .sendcmd → (cmdsel s.lastop).toNat < 4
  /-- R155: the clock is fast only in SDCard or MMCCard. -/
  fastOnlyReady : s.clkfast = true → sessionReady s.session = true
  /-- R37, R159: position, return point and session go together. -/
  placed : placeFits s.seq.pos s.seq.caller s.session = true
  /-- R8, R38: the counters are inside their loops. -/
  counters : countersFit s = true
  /-- R158: ATT is inside its budget. -/
  attempts : attemptsFit s = true
  /-- R90, R126: the dummy exchange follows a true response, which is never 0xFF. -/
  responseLatched : s.seq.pos = .respDummy → s.seq.timedout = false ∧ s.seq.r = s.resp ∧ s.seq.r ≠ notReadyByte

/-- Whose turn is next: the agenda's first, or the sequencer's when it is empty. -/
def nextTurn (s : State) : Turn := s.agenda.headD .sequencer

/-- The state with that turn taken. -/
def turnTaken (s : State) : State := { s with agenda := s.agenda.tail }

/-- SendCommand is about to return to this call site with this response: after the dummy exchange, or out of polls with 0xFF. -/
def returning (s : State) (c : Caller) (r : Byte) : Prop :=
  s.seq.caller = c ∧
    ((s.seq.pos = .respDummy ∧ s.seq.r = r) ∨
      (s.seq.pos = .respPoll ∧ s.seq.rx = notReadyByte ∧ s.seq.n.toNat + 1 = s.cfg.respPollBudget ∧ r = notReadyByte))

/-- The events of R159's table, seen in the state before the step: the session may go from `x` to `y`. -/
def sessionEvent (s : State) (x y : Session) : Prop :=
  match x, y with
  | .uninitialized, .poweringUp => s.seq.pos = .start .init
  | .poweringUp, .idleEntered => returning s .initIdle s.cfg.idleOk
  | .poweringUp, .failed => s.att.toNat = s.cfg.idleAttempts ∧ ∃ r, returning s .initIdle r ∧ r ≠ s.cfg.idleOk
  | .idleEntered, .negotiating => returning s .initInit okByte
  | .idleEntered, .failed => s.att.toNat = s.cfg.initAttempts ∧ ∃ r, returning s .initInit r ∧ r ≠ okByte
  | .negotiating, .sdCard => returning s .initOpCond okByte
  | .negotiating, .mmcCard => ∃ r, (returning s .initApp r ∨ returning s .initOpCond r) ∧ r ≠ okByte
  | _, _ => False

/-- The bus trace after Fail: a `DESEL` if the card was selected, and no other event (R136). -/
def deselectedTrace (s : State) : List BusEvent := if s.sel then s.trace ++ [.desel] else s.trace

/-- `t` is `s` after a request byte was taken up and refused with a code: LASTOP, DONE, FAIL and ERR are written, the sequencer is at IDLE,
nothing else has changed (R120, R245). What the hidden values are at IDLE is not said (R38). -/
def refusedWith (v : Byte) (code : ErrCode) (s t : State) : Prop :=
  t = { s with lastop := v &&& 0x77#8, done := true, fail := true, err := code, seq := t.seq } ∧ t.seq.pos = .idle

/-- `t` is `s` after Fail with a code ended its operation: SEL, BUSY, DONE, FAIL, ERR and the `DESEL` event, the sequencer at IDLE, nothing
else changed (R136, R247). -/
def failedWith (code : ErrCode) (s t : State) : Prop :=
  t = { s with sel := false, trace := deselectedTrace s, busy := false, done := true, fail := true, err := code, seq := t.seq }
    ∧ t.seq.pos = .idle

/-- What no command, session or data-response statement writes: the configuration, BUF, LASTOP, ARG, OFFS, CNT and the host's reads. -/
def dataKept (s t : State) : Prop :=
  t.cfg = s.cfg ∧ t.buf = s.buf ∧ t.lastop = s.lastop ∧ t.arg = s.arg ∧ t.offs = s.offs ∧ t.cnt = s.cnt ∧ t.reads = s.reads

/-- The width of a turn's host access is one byte, if it has one (R65). -/
def turnOneByte : Turn → Bool
  | .host (.read _ w) => w == 1
  | .host (.write _ w _) => w == 1
  | .wait | .sequencer | .reset => true

/-- The states in which a step cannot stop: a legal configuration, coherent, and every host access one byte wide. -/
def Safe (s : State) : Prop := s.cfg.legal = true ∧ coherent s = true ∧ ∀ t ∈ s.agenda, turnOneByte t = true

/-- The number of exchanges in a bus trace (R293, R294). -/
def exchanges : List BusEvent → Nat
  | [] => 0
  | .x _ _ :: rest => exchanges rest + 1
  | .sel :: rest => exchanges rest
  | .desel :: rest => exchanges rest
  | .clk _ :: rest => exchanges rest

/-- The bytes sent in a bus trace, in order. -/
def sentBytes : List BusEvent → List Byte
  | [] => []
  | .x tx _ :: rest => tx :: sentBytes rest
  | .sel :: rest => sentBytes rest
  | .desel :: rest => sentBytes rest
  | .clk _ :: rest => sentBytes rest

/-- `S` of R293: the most exchanges one SendCommand can make. -/
def commandBound (c : Config) : Nat := 7 + c.respPollBudget

/-- The most exchanges of an operation (R293). -/
def exchangeBound (c : Config) : Op → Nat
  | .sendcmd => commandBound c
  | .init => c.powerupFillerBytes + (c.idleAttempts + c.initAttempts + 2) * commandBound c
  | .read => commandBound c + c.tokenPollBudget + 515
  | .rdpart => commandBound c + c.tokenPollBudget + 515
  | .write => commandBound c + 514 + c.wrespPollBudget + c.busyPollBudget + 1

end Sys2Proof.Machine
end

