-- ==== Sys2Proof/Certificates/Slice0/Obligations.lean ====
section
/-! DEFINITION. The statements about the model for the provers, from the numbered rules of spec/. -/

open Sys2Proof Sys2Proof.Machine

/-! ## Decoding and encoding -/

/-- 30_encoding.md R80 to R95: the decoder of each encoding space gives back every well-formed row from its encoding, with every operand at
every value, for every CMD_BYTE table whose six bytes differ. -/
def Obligations.DecodeEncodeAgree : Prop :=
  ∀ (cfg : Config) (i : Instr), (commands.map cfg.cmdByte).Nodup → i.wellFormed cfg = true →
    decodeBytes cfg i.space (encode cfg i) = .ok i

/-- Every one of the 256 request bytes decodes to a well-formed request row whose encoding is that byte; OP alone decides the row but for
SENDCMD, where bit 6 does too. -/
def Obligations.EveryRequestByteDecodes : Prop :=
  ∀ (cfg : Config) (v : Byte),
    decodeBytes cfg .request [v] = .ok (decodeRequest v) ∧ (decodeRequest v).wellFormed cfg = true
      ∧ (decodeRequest v).space = .request ∧ encode cfg (decodeRequest v) = [v]
      ∧ (v.extractLsb' 0 3 = 0#3 → decodeRequest v = .nop (v.extractLsb' 3 5))
      ∧ (v.extractLsb' 0 3 = 1#3 → decodeRequest v = .init (v.extractLsb' 3 5))
      ∧ (v.extractLsb' 0 3 = 2#3 → v.getLsbD 6 = false →
          decodeRequest v = .sendcmd (v.extractLsb' 4 3) (v.extractLsb' 7 1) (v.extractLsb' 3 1))
      ∧ (v.extractLsb' 0 3 = 2#3 → v.getLsbD 6 = true →
          decodeRequest v = .sendcmdBadsel (v.extractLsb' 4 3) (v.extractLsb' 7 1) (v.extractLsb' 3 1))
      ∧ (v.extractLsb' 0 3 = 3#3 → decodeRequest v = .read (v.extractLsb' 3 5))
      ∧ (v.extractLsb' 0 3 = 4#3 → decodeRequest v = .rdpart (v.extractLsb' 3 5))
      ∧ (v.extractLsb' 0 3 = 5#3 → decodeRequest v = .write (v.extractLsb' 3 5))
      ∧ (v.extractLsb' 0 3 = 6#3 → decodeRequest v = .reserved6 (v.extractLsb' 3 5))
      ∧ (v.extractLsb' 0 3 = 7#3 → decodeRequest v = .reserved7 (v.extractLsb' 3 5))

/-- Nine words written out from the encodings of R81, R85, R86 and R90 to R93 decode to the rows they stand for, and a frame whose trailer is
0x94 is rejected with badTrailer. The frame words carry the default CMD_BYTE, which is PRESUMED (log 2). -/
def Obligations.WrittenWordsDecode : Prop :=
  decodeBytes Config.default .request [0x70#8] = .ok (.nop 14#5)
    ∧ decodeBytes Config.default .request [0xB2#8] = .ok (.sendcmd 3#3 1#1 0#1)
    ∧ decodeBytes Config.default .request [0x42#8] = .ok (.sendcmdBadsel 4#3 0#1 0#1)
    ∧ decodeBytes Config.default .frame [0x40#8, 0x00#8, 0x00#8, 0x00#8, 0x00#8, 0x95#8] = .ok (.goIdle 0#32)
    ∧ decodeBytes Config.default .frame [0x51#8, 0x00#8, 0x00#8, 0x02#8, 0x00#8, 0x95#8] = .ok (.readSingle 0x200#32)
    ∧ decodeBytes Config.default .frame [0x51#8, 0x00#8, 0x00#8, 0x02#8, 0x00#8, 0x94#8] = .error .badTrailer
    ∧ decodeBytes Config.default (.received .response) [0x00#8] = .ok .respOk
    ∧ decodeBytes Config.default (.received .token) [0xFE#8] = .ok .dataToken
    ∧ decodeBytes Config.default (.received .dataResponse) [0xE5#8] = .ok (.drespAccepted 0xE#4)
    ∧ decodeBytes Config.default (.received .busy) [0x00#8] = .ok .busy

/-- R85: the six bytes of a frame: command byte, argument most significant byte first, trailer 0x95; and they are the 48-bit value with byte
0 in bits 47:40. -/
def Obligations.FrameIsSixBytes : Prop :=
  ∀ (b : Byte) (arg : BitVec 32),
    frameBytes b arg
        = [b, arg.extractLsb' 24 8, arg.extractLsb' 16 8, arg.extractLsb' 8 8, arg.extractLsb' 0 8, 0x95#8]
      ∧ (frameWord b arg).extractLsb' 40 8 = b ∧ (frameWord b arg).extractLsb' 8 32 = arg
      ∧ (frameWord b arg).extractLsb' 0 8 = 0x95#8

/-- The data-response site (30_encoding.md) classifies by the low nibble alone, for every byte. -/
def Obligations.DataResponseByLowNibble : Prop :=
  ∀ (cfg : Config) (d : Byte),
    decodeReceived cfg .dataResponse d =
      if d.extractLsb' 0 4 = 0x5#4 then .ok (.drespAccepted (d.extractLsb' 4 4))
      else if d.extractLsb' 0 4 = 0xB#4 then .ok (.drespCrcRejected (d.extractLsb' 4 4))
      else if d.extractLsb' 0 4 = 0xD#4 then .ok (.drespWriteError (d.extractLsb' 4 4))
      else .error .dataResponseNotYet

/-! ## The step -/

/-- A one-byte host write of OPREQ (0x200) runs the request row its byte decodes to, with the turn taken. -/
def Obligations.StepRunsRequestByte : Prop :=
  ∀ (s : State) (v : Byte), s.cfg.legal = true → nextTurn s = .host (.write 0x200#10 1 v) →
    step s = exec (decodeRequest v) (turnTaken s)

/-- At a site with a received byte that is a row there, the sequencer's turn runs that row; before the first exchange of a frame it runs the
frame's row. An operation makes a frame's first exchange in the step that calls SendCommand, and StepsThatBeginAFrameRunItsRow says the same of
that step. -/
def Obligations.StepRunsSequencerRow : Prop :=
  ∀ (s : State), s.cfg.legal = true → s.busy = true → nextTurn s = .sequencer →
    (∀ site i, siteOf s.seq.pos = some site → decodeReceived s.cfg site s.seq.rx = .ok i →
        step s = exec i (turnTaken s))
      ∧ (s.seq.pos = .frame 0 → step s = exec (frameInstr s.seq.cmd s.seq.arg) (turnTaken s))

/-- R8: a configuration with a parameter outside its range of R6 is refused, and no other is. -/
def Obligations.IllegalConfigurationRefused : Prop :=
  ∀ (s : State),
    (s.cfg.legal = true ↔
      (1 ≤ s.cfg.respPollBudget ∧ s.cfg.respPollBudget ≤ 65535) ∧ (1 ≤ s.cfg.idleAttempts ∧ s.cfg.idleAttempts ≤ 65535)
        ∧ (1 ≤ s.cfg.initAttempts ∧ s.cfg.initAttempts ≤ 65535)
        ∧ (1 ≤ s.cfg.tokenPollBudget ∧ s.cfg.tokenPollBudget ≤ 65535)
        ∧ (1 ≤ s.cfg.wrespPollBudget ∧ s.cfg.wrespPollBudget ≤ 65535)
        ∧ (1 ≤ s.cfg.busyPollBudget ∧ s.cfg.busyPollBudget ≤ 65535)
        ∧ (10 ≤ s.cfg.powerupFillerBytes ∧ s.cfg.powerupFillerBytes ≤ 65535) ∧ s.cfg.idleOk ≠ 0xFF#8)
      ∧ (s.cfg.legal = false ↔ step s = .refused .illegalConfiguration)

/-- A host access of one byte at any address completes; one of another width is refused. -/
def Obligations.HostAccessIsOneByte : Prop :=
  ∀ (s : State) (a : BitVec 10) (w : Nat) (v : Byte), s.cfg.legal = true →
    (nextTurn s = .host (.read a w) → if w = 1 then ∃ t : State, step s = .next t else step s = .refused .accessWidth)
      ∧ (nextTurn s = .host (.write a w v) → if w = 1 then ∃ t : State, step s = .next t else step s = .refused .accessWidth)

/-- No step of a safe state stops, and the next state is safe again. -/
def Obligations.SafeStatesNeverStop : Prop :=
  ∀ (s : State), Safe s → ∃ t : State, step s = .next t ∧ Safe t

/-- The invariant holds at reset. -/
def Obligations.InvariantAtReset : Prop := BlockInv State.reset

/-- Every step keeps the invariant: BUF canonical, BUSY and position together, SEL only while BUSY, the flag invariants of R24, the session
states of R159, the counters inside their loops. -/
def Obligations.StepKeepsInvariant : Prop := ∀ (s t : State), BlockInv s → step s = .next t → BlockInv t

/-- A step makes at most one exchange, and but for reset it only adds to the bus trace; a host step adds nothing. -/
def Obligations.OneExchangePerStep : Prop :=
  ∀ (s t : State), step s = .next t → nextTurn s ≠ .reset →
    (∃ events, t.trace = s.trace ++ events ∧ exchanges events ≤ 1)
      ∧ (BlockInv s → nextTurn s ≠ .sequencer → t.trace = s.trace)

/-- R280: a reset, in any state, puts every piece of the block's state in its reset value, in one step and with no bus event; BUF is
unspecified (no byte is listed) and the bus trace is empty. -/
def Obligations.ResetFromAnyState : Prop :=
  ∀ (s : State), s.cfg.legal = true → nextTurn s = .reset →
    ∃ t : State, step s = .next t ∧ t.lastop = 0x00#8 ∧ statusByte t = 0x00#8 ∧ t.busy = false ∧ t.done = false ∧ t.fail = false
      ∧ t.sel = false ∧ t.clkfast = false ∧ t.err = .none ∧ t.resp = 0xFF#8 ∧ t.dresp = 0xFF#8
      ∧ t.session = .uninitialized ∧ t.att = 0#16 ∧ t.arg = 0#32 ∧ t.offs = 0#10 ∧ t.cnt = 0#10 ∧ t.seq.pos = .idle
      ∧ t.seq.n = 0#16 ∧ t.seq.i = 0#10 ∧ t.seq.r = 0x00#8 ∧ t.seq.timedout = false
      ∧ (∀ k, Memory.read t.buf k = none) ∧ t.trace = []

/-- The model's own account of the card's answers: what a sequencer step that makes an exchange receives is the next answer of the card's
queue where one is waiting, which is used up, else the oracle's for the bus trace so far; a step that makes none leaves the queue alone. That
there is a queue and that it comes before the oracle is the model's choice (log 3), and so is the draw number (log 6); the spec gives only an
oracle that may depend on the trace. -/
def Obligations.ExchangeTakesCardAnswer : Prop :=
  ∀ (s t : State), step s = .next t → nextTurn s = .sequencer →
    (exchanges t.trace = exchanges s.trace ∧ t.card = s.card)
      ∨ ∃ before tx, t.trace = before ++ [.x tx t.seq.rx] ∧ exchanges before = exchanges s.trace
          ∧ (s.card = t.seq.rx :: t.card
            ∨ (s.card = [] ∧ t.card = [] ∧ ∃ k, t.draws = k + 1 ∧ t.seq.rx = Config.cardOracle k before tx))

/-! ## Requests (40_protocol.md R120) -/

/-- R121: NOP, a write of OPREQ with OP = 0, changes nothing, whether BUSY is 0 or 1. -/
def Obligations.NopChangesNothing : Prop :=
  ∀ (s : State) (ignored : BitVec 5),
    exec (.nop ignored) s = .next s
      ∧ (s.cfg.legal = true → ∀ v : Byte, v.extractLsb' 0 3 = 0#3 → nextTurn s = .host (.write 0x200#10 1 v) →
          step s = .next (turnTaken s))

/-- A request while BUSY = 1 is ignored: no state changes. -/
def Obligations.BusyRequestIgnored : Prop :=
  ∀ (s : State) (i : Instr), i.space = .request → s.busy = true → exec i s = .next s

/-- INIT from Uninitialized is accepted: LASTOP, DONE, FAIL, ERR and BUSY as R120 writes them, the sequencer before INIT's first statement,
nothing else changed. -/
def Obligations.InitAccepted : Prop :=
  ∀ (s : State) (ignored : BitVec 5), s.busy = false → s.session = .uninitialized →
    exec (.init ignored) s = .next
      { s with lastop := (ignored ++ 1#3) &&& 0x77#8, done := false, fail := false, err := .none, busy := true,
               seq := { s.seq with pos := .start .init } }

/-- SENDCMD with CMDSEL 0 to 3 is accepted in every session state. -/
def Obligations.SendcmdAccepted : Prop :=
  ∀ (s : State) (sel : BitVec 3) (r7 r3 : BitVec 1), s.busy = false → sel.toNat < 4 →
    exec (.sendcmd sel r7 r3) s = .next
      { s with lastop := (r7 ++ sel ++ r3 ++ 2#3) &&& 0x77#8, done := false, fail := false, err := .none, busy := true,
               seq := { s.seq with pos := .start .sendcmd } }

/-- READ, RDPART with OFFS + CNT at most 512, and WRITE are accepted in SDCard and MMCCard; WRITE sets DRESP to 0xFF. -/
def Obligations.BlockRequestsAccepted : Prop :=
  ∀ (s : State) (ignored : BitVec 5), s.busy = false → s.session = .sdCard ∨ s.session = .mmcCard →
    exec (.read ignored) s = .next
        { s with lastop := (ignored ++ 3#3) &&& 0x77#8, done := false, fail := false, err := .none, busy := true,
                 seq := { s.seq with pos := .start .read } }
      ∧ (s.offs.toNat + s.cnt.toNat ≤ 512 → exec (.rdpart ignored) s = .next
          { s with lastop := (ignored ++ 4#3) &&& 0x77#8, done := false, fail := false, err := .none, busy := true,
                   seq := { s.seq with pos := .start .rdpart } })
      ∧ exec (.write ignored) s = .next
          { s with lastop := (ignored ++ 5#3) &&& 0x77#8, done := false, fail := false, err := .none, busy := true,
                   dresp := 0xFF#8, seq := { s.seq with pos := .start .write } }

/-- R122: a reserved request (OP = 6 or 7) always fails with BAD_OP at acceptance, in every session state: STATUS flags, ERR and LASTOP as
given, no bus event, every other register unchanged. -/
def Obligations.ReservedRequestsFailBadOp : Prop :=
  ∀ (s : State) (ignored : BitVec 5), BlockInv s → s.busy = false →
    (∃ t, exec (.reserved6 ignored) s = .next t ∧ refusedWith (ignored ++ 6#3) .badOp s t)
      ∧ ∃ t, exec (.reserved7 ignored) s = .next t ∧ refusedWith (ignored ++ 7#3) .badOp s t

/-- SENDCMD_BADSEL (CMDSEL 4 to 7) is refused with PARAM_ERROR: no bus event, every other register unchanged. -/
def Obligations.BadCmdselFailsParamError : Prop :=
  ∀ (s : State) (sel : BitVec 3) (r7 r3 : BitVec 1), BlockInv s → s.busy = false → 4 ≤ sel.toNat →
    ∃ t, exec (.sendcmdBadsel sel r7 r3) s = .next t ∧ refusedWith (r7 ++ sel ++ r3 ++ 2#3) .paramError s t

/-- R157: INIT is refused with SEQ_ERROR from every state other than Uninitialized, READ, RDPART and WRITE with NOT_READY from every state
other than SDCard and MMCCard (RDPART whatever its window: the session check comes first), and no step but a reset takes SESSION out of
Failed, SDCard or MMCCard or back to Uninitialized. -/
def Obligations.SessionGatesRequests : Prop :=
  ∀ (s : State) (ignored : BitVec 5), BlockInv s →
    (s.busy = false → s.session ≠ .uninitialized →
        ∃ t, exec (.init ignored) s = .next t ∧ refusedWith (ignored ++ 1#3) .seqError s t)
      ∧ (s.busy = false → s.session ≠ .sdCard → s.session ≠ .mmcCard →
          (∃ t, exec (.read ignored) s = .next t ∧ refusedWith (ignored ++ 3#3) .notReady s t)
            ∧ (∃ t, exec (.rdpart ignored) s = .next t ∧ refusedWith (ignored ++ 4#3) .notReady s t)
            ∧ ∃ t, exec (.write ignored) s = .next t ∧ refusedWith (ignored ++ 5#3) .notReady s t)
      ∧ (∀ t, step s = .next t → s.session = .failed ∨ s.session = .sdCard ∨ s.session = .mmcCard →
          t.session = s.session ∨ (nextTurn s = .reset ∧ t.session = .uninitialized))
      ∧ (∀ t, step s = .next t → t.session = .uninitialized → s.session = .uninitialized ∨ nextTurn s = .reset)

/-- R186: RDPART with OFFS + CNT above 512, the sum without wrap-around, is refused with PARAM_ERROR and no bus event. -/
def Obligations.WindowTooLongFailsParamError : Prop :=
  ∀ (s : State) (ignored : BitVec 5), BlockInv s → s.busy = false → s.session = .sdCard ∨ s.session = .mmcCard →
    512 < s.offs.toNat + s.cnt.toNat →
    ∃ t, exec (.rdpart ignored) s = .next t ∧ refusedWith (ignored ++ 4#3) .paramError s t

/-! ## Commands (40_protocol.md R124 to R135) -/

/-- The six frame rows: each sends its command byte and leaves the sequencer after byte 0 of its frame; nothing else changes. That a frame row's
meaning is the first of its six exchanges, the others being the sequencer's later steps, is the model's choice (log 12); SendCommandSendsFrame
says what the other five send. -/
def Obligations.FrameRowsSendCommandByte : Prop :=
  ∀ (s : State) (arg : BitVec 32) (i : Instr) (c : Command),
    (i, c) ∈ [(Instr.goIdle arg, Command.goIdle), (.initCmd arg, .initCmd), (.appCmd arg, .appCmd),
      (.sdSendOpCond arg, .sdSendOpCond), (.readSingle arg, .readSingle), (.writeSingle arg, .writeSingle)] →
    exec i s = .next
      { s with trace := s.trace ++ [.x (s.cfg.cmdByte c) (s.answer (s.cfg.cmdByte c))]
               card := s.card.tail
               draws := s.draws + (if s.card.isEmpty then 1 else 0)
               seq := { s.seq with pos := .frame 1, cmd := c, arg := arg, rx := s.answer (s.cfg.cmdByte c) } }

/-- R124: SendCommand sends the six bytes of its frame, in order, discarding the six received bytes, and does not touch SEL. From any point of
the frame (`sent` bytes sent, 1 of them where an operation's step has begun it) the remaining bytes are sent in as many steps, which change no
register, and the next step makes the first response poll; and a call of SendCommand, from any call site, sends the whole frame with that call and
five steps. -/
def Obligations.SendCommandSendsFrame : Prop :=
  ∀ (s : State), s.cfg.legal = true → s.busy = true → s.agenda = [] →
    (∀ sent, sent ≤ 6 → s.seq.pos = .frame sent →
      ∃ t u : State, core.run (6 - sent) s = .next t ∧ core.step t = .next u
        ∧ sentBytes t.trace = sentBytes s.trace ++ (frameBytes (s.cfg.cmdByte s.seq.cmd) s.seq.arg).drop sent
        ∧ exchanges t.trace = exchanges s.trace + (6 - sent)
        ∧ t = { s with trace := t.trace, card := t.card, draws := t.draws,
                       seq := { s.seq with pos := .frame 6, rx := t.seq.rx } }
        ∧ u.trace = t.trace ++ [.x 0xFF#8 (t.answer 0xFF#8)] ∧ u.seq.pos = .respPoll ∧ u.seq.n = 0#16)
    ∧ ∀ (caller : Caller) (c : Command) (arg : BitVec 32),
      ∃ t : State, core.run 5 (callCommand caller c arg s) = .next t
        ∧ sentBytes t.trace = sentBytes s.trace ++ frameBytes (s.cfg.cmdByte c) arg
        ∧ exchanges t.trace = exchanges s.trace + 6
        ∧ t = { s with trace := t.trace, card := t.card, draws := t.draws,
                       seq := { s.seq with pos := .frame 6, caller := caller, cmd := c, arg := arg, rx := t.seq.rx } }

/-- The three response rows (OK, Idle-OK, error bitmap x): RESP and the latched response take the byte, no timeout is latched, and the dummy
exchange sends 0xFF; nothing else changes. -/
def Obligations.ResponseRowsLatchResponse : Prop :=
  ∀ (s : State) (x : Byte) (i : Instr),
    (i, x) ∈ [(Instr.respOk, 0x00#8), (.respIdleOk, s.cfg.idleOk), (.respError x, x)] →
    exec i s = .next
      { s with resp := x
               trace := s.trace ++ [.x 0xFF#8 (s.answer 0xFF#8)]
               card := s.card.tail
               draws := s.draws + (if s.card.isEmpty then 1 else 0)
               seq := { s.seq with pos := .respDummy, n := s.seq.n + 1#16, r := x, timedout := false,
                                   rx := s.answer 0xFF#8 } }

/-- RESP_NOT_READY inside the budget: the poll continues and nothing but n and the bus changes. -/
def Obligations.NotReadyPollsAgain : Prop :=
  ∀ (s : State), s.cfg.legal = true → s.seq.n.toNat + 1 < s.cfg.respPollBudget →
    exec .respNotReady s = .next
      { s with trace := s.trace ++ [.x 0xFF#8 (s.answer 0xFF#8)]
               card := s.card.tail
               draws := s.draws + (if s.card.isEmpty then 1 else 0)
               seq := { s.seq with pos := .respPoll, n := s.seq.n + 1#16, rx := s.answer 0xFF#8 } }

/-- RESP_NOT_READY at the last poll of a SENDCMD, READ, RDPART or WRITE: no dummy exchange, RESP = 0xFF, and the operation, which decides so as
SendCommand's caller, fails with CMD_TIMEOUT. (What INIT makes of it is in GoIdleResponseDecides, InitCmdResponseDecides and
CardTypeSelection.) -/
def Obligations.LastNotReadyTimesOut : Prop :=
  ∀ (s : State), s.cfg.legal = true → s.seq.n.toNat + 1 = s.cfg.respPollBudget →
    s.seq.caller ∈ [Caller.sendcmd, .read, .rdpart, .write] →
    ∃ t, exec .respNotReady s = .next t ∧ failedWith .cmdTimeout { s with resp := 0xFF#8 } t

/-- A whole SENDCMD while no other turn comes between: where the first response comes at poll k within the budget, the operation ends after
exactly 6 + k + 1 exchanges with RESP the response and success; where every poll returns 0xFF it ends after exactly 6 + RESP_POLL_BUDGET
exchanges with RESP = 0xFF and CMD_TIMEOUT. -/
def Obligations.SendcmdExchangeCounts : Prop :=
  ∀ (s : State) (frame after : List Byte) (k : Nat) (x d : Byte),
    s.cfg.legal = true → BlockInv s → s.agenda = [] → s.seq.pos = .start .sendcmd → frame.length = 6 → x ≠ 0xFF#8 →
    (k < s.cfg.respPollBudget → s.card = frame ++ List.replicate k 0xFF#8 ++ [x, d] ++ after →
      ∃ t : State, core.run (6 + (k + 1) + 2) s = .next t ∧ exchanges t.trace = exchanges s.trace + (6 + (k + 1) + 1)
        ∧ t.busy = false ∧ t.done = true ∧ t.fail = false ∧ t.err = .none ∧ t.resp = x ∧ t.sel = false
        ∧ t.session = s.session ∧ t.clkfast = s.clkfast ∧ t.card = after)
    ∧ (s.card = frame ++ List.replicate s.cfg.respPollBudget 0xFF#8 ++ after →
      ∃ t : State, core.run (6 + s.cfg.respPollBudget + 1) s = .next t
        ∧ exchanges t.trace = exchanges s.trace + (6 + s.cfg.respPollBudget)
        ∧ t.busy = false ∧ t.done = true ∧ t.fail = true ∧ t.err = .cmdTimeout ∧ t.resp = 0xFF#8 ∧ t.sel = false
        ∧ t.session = s.session ∧ t.clkfast = s.clkfast ∧ t.card = after)

/-- The first step of SENDCMD, READ, RDPART and WRITE: select, then the command byte of the operation's frame, whose argument is ARG
unchanged under SENDCMD and `{ARG[22:0], 0b000000000}` for the block commands, whatever ARG[31:23] holds. -/
def Obligations.OperationsBeginTheirFrame : Prop :=
  ∀ (s : State) (op : Op) (caller : Caller) (c : Command) (a : BitVec 32),
    s.cfg.legal = true → s.busy = true → nextTurn s = .sequencer → s.seq.pos = .start op →
    ((op = .read ∧ caller = .read ∧ c = .readSingle ∧ a = s.arg.extractLsb' 0 23 ++ 0#9)
      ∨ (op = .rdpart ∧ caller = .rdpart ∧ c = .readSingle ∧ a = s.arg.extractLsb' 0 23 ++ 0#9)
      ∨ (op = .write ∧ caller = .write ∧ c = .writeSingle ∧ a = s.arg.extractLsb' 0 23 ++ 0#9)
      ∨ (op = .sendcmd ∧ caller = .sendcmd ∧ (s.lastop.extractLsb' 4 3).toNat < 4
          ∧ cmdselCommand (s.lastop.extractLsb' 4 3) = some c ∧ a = s.arg)) →
    ∃ rx, step s = .next
      { s with agenda := s.agenda.tail
               sel := true
               trace := s.trace ++ [.sel, .x (s.cfg.cmdByte c) rx]
               card := s.card.tail
               draws := s.draws + (if s.card.isEmpty then 1 else 0)
               seq := { s.seq with pos := .frame 1, caller := caller, cmd := c, arg := a, rx := rx } }

/-! ## Card session (41_session.md) -/

/-- R151: step 1 of INIT: PoweringUp, the slow clock and the deselect (both events even when already so), then POWERUP_FILLER_BYTES
exchanges of 0xFF with SEL = 0. -/
def Obligations.PowerUpSendsFiller : Prop :=
  ∀ (s : State), s.cfg.legal = true → BlockInv s → s.agenda = [] → s.seq.pos = .start .init →
    ∃ (t : State) (rxs : List Byte), core.run s.cfg.powerupFillerBytes s = .next t ∧ rxs.length = s.cfg.powerupFillerBytes
      ∧ t.trace = s.trace ++ [.clk .slow, .desel] ++ rxs.map (BusEvent.x 0xFF#8)
      ∧ t.session = .poweringUp ∧ t.clkfast = false ∧ t.sel = false ∧ t.busy = true ∧ t.seq.pos = .filler
      ∧ t.seq.j.toNat = s.cfg.powerupFillerBytes ∧ dataKept s t ∧ t.resp = s.resp ∧ t.dresp = s.dresp ∧ t.att = s.att

/-- After the last filler byte: select, ATT = 1 and the first GO_IDLE with argument 0; before it: one more filler byte. -/
def Obligations.FillerThenFirstGoIdle : Prop :=
  ∀ (s : State), s.cfg.legal = true → BlockInv s → nextTurn s = .sequencer → s.seq.pos = .filler →
    ∃ t : State, step s = .next t ∧ dataKept s t ∧ t.session = .poweringUp ∧ t.busy = true
      ∧ (s.seq.j.toNat < s.cfg.powerupFillerBytes →
          t.trace = s.trace ++ [.x 0xFF#8 t.seq.rx] ∧ t.sel = s.sel ∧ t.att = s.att ∧ t.seq.pos = .filler
            ∧ t.seq.j = s.seq.j + 1#16)
      ∧ (s.seq.j.toNat = s.cfg.powerupFillerBytes →
          t.trace = s.trace ++ [.sel, .x s.cfg.cmdGoIdle t.seq.rx] ∧ t.sel = true ∧ t.att = 1#16
            ∧ t.seq.pos = .frame 1 ∧ t.seq.caller = .initIdle ∧ t.seq.cmd = .goIdle ∧ t.seq.arg = 0#32)

/-- Step 2, at the return of a GO_IDLE with response r (0xFF after a timeout): IDLE_OK gives IdleEntered, ATT = 1 and the first INIT_CMD;
another response gives the next GO_IDLE with ATT one more, or after IDLE_ATTEMPTS of them Failed and IDLE_FAILED. -/
def Obligations.GoIdleResponseDecides : Prop :=
  ∀ (s : State) (r : Byte), s.cfg.legal = true → BlockInv s → nextTurn s = .sequencer → returning s .initIdle r →
    ∃ t : State, step s = .next t ∧ dataKept s t ∧ t.resp = r ∧ t.dresp = s.dresp ∧ t.clkfast = s.clkfast
      ∧ (r = s.cfg.idleOk →
          t.session = .idleEntered ∧ t.att = 1#16 ∧ t.busy = true ∧ t.sel = s.sel
            ∧ t.trace = s.trace ++ [.x s.cfg.cmdInitCmd t.seq.rx]
            ∧ t.seq.pos = .frame 1 ∧ t.seq.caller = .initInit ∧ t.seq.cmd = .initCmd ∧ t.seq.arg = 0#32)
      ∧ (r ≠ s.cfg.idleOk → s.att.toNat < s.cfg.idleAttempts →
          t.session = .poweringUp ∧ t.att = s.att + 1#16 ∧ t.busy = true ∧ t.sel = s.sel
            ∧ t.trace = s.trace ++ [.x s.cfg.cmdGoIdle t.seq.rx]
            ∧ t.seq.pos = .frame 1 ∧ t.seq.caller = .initIdle ∧ t.seq.cmd = .goIdle ∧ t.seq.arg = 0#32)
      ∧ (r ≠ s.cfg.idleOk → s.att.toNat = s.cfg.idleAttempts →
          t.session = .failed ∧ t.att = s.att ∧ t.err = .idleFailed ∧ t.busy = false ∧ t.done = true ∧ t.fail = true
            ∧ t.sel = false ∧ t.trace = deselectedTrace s ∧ t.seq.pos = .idle)

/-- Step 3, at the return of an INIT_CMD with response r: 0x00 gives Negotiating and APP_CMD; another response gives the next INIT_CMD with
ATT one more, or after INIT_ATTEMPTS of them Failed and INIT_FAILED. -/
def Obligations.InitCmdResponseDecides : Prop :=
  ∀ (s : State) (r : Byte), s.cfg.legal = true → BlockInv s → nextTurn s = .sequencer → returning s .initInit r →
    ∃ t : State, step s = .next t ∧ dataKept s t ∧ t.resp = r ∧ t.dresp = s.dresp ∧ t.clkfast = s.clkfast
      ∧ (r = 0x00#8 →
          t.session = .negotiating ∧ t.att = s.att ∧ t.busy = true ∧ t.sel = s.sel
            ∧ t.trace = s.trace ++ [.x s.cfg.cmdAppCmd t.seq.rx]
            ∧ t.seq.pos = .frame 1 ∧ t.seq.caller = .initApp ∧ t.seq.cmd = .appCmd ∧ t.seq.arg = 0#32)
      ∧ (r ≠ 0x00#8 → s.att.toNat < s.cfg.initAttempts →
          t.session = .idleEntered ∧ t.att = s.att + 1#16 ∧ t.busy = true ∧ t.sel = s.sel
            ∧ t.trace = s.trace ++ [.x s.cfg.cmdInitCmd t.seq.rx]
            ∧ t.seq.pos = .frame 1 ∧ t.seq.caller = .initInit ∧ t.seq.cmd = .initCmd ∧ t.seq.arg = 0#32)
      ∧ (r ≠ 0x00#8 → s.att.toNat = s.cfg.initAttempts →
          t.session = .failed ∧ t.att = s.att ∧ t.err = .initFailed ∧ t.busy = false ∧ t.done = true ∧ t.fail = true
            ∧ t.sel = false ∧ t.trace = deselectedTrace s ∧ t.seq.pos = .idle)

/-- Step 4 and the end of INIT: APP_CMD answered 0x00 is followed by SD_SEND_OP_COND; the card is SD if that is answered 0x00 too, and MMC
if either response is another one or a timeout. The end deselects, then raises the clock (on MMC only if MMC_FAST_CLOCK, else without a
CLK event), sets SESSION and succeeds, and ATT keeps its value. -/
def Obligations.CardTypeSelection : Prop :=
  ∀ (s : State) (r : Byte), s.cfg.legal = true → BlockInv s → nextTurn s = .sequencer →
    returning s .initApp r ∨ returning s .initOpCond r →
    ∃ t : State, step s = .next t ∧ dataKept s t ∧ t.resp = r ∧ t.dresp = s.dresp ∧ t.att = s.att
      ∧ (r = 0x00#8 → s.seq.caller = .initApp →
          t.session = .negotiating ∧ t.busy = true ∧ t.sel = s.sel ∧ t.clkfast = s.clkfast
            ∧ t.trace = s.trace ++ [.x s.cfg.cmdSdSendOpCond t.seq.rx]
            ∧ t.seq.pos = .frame 1 ∧ t.seq.caller = .initOpCond ∧ t.seq.cmd = .sdSendOpCond ∧ t.seq.arg = 0#32)
      ∧ (¬ (r = 0x00#8 ∧ s.seq.caller = .initApp) →
          t.busy = false ∧ t.done = true ∧ t.fail = false ∧ t.err = .none ∧ t.sel = false ∧ t.seq.pos = .idle)
      ∧ (r = 0x00#8 → s.seq.caller = .initOpCond →
          t.session = .sdCard ∧ t.clkfast = true ∧ t.trace = s.trace ++ [.desel, .clk .fast])
      ∧ (r ≠ 0x00#8 → s.cfg.mmcFastClock = true →
          t.session = .mmcCard ∧ t.clkfast = true ∧ t.trace = s.trace ++ [.desel, .clk .fast])
      ∧ (r ≠ 0x00#8 → s.cfg.mmcFastClock = false →
          t.session = .mmcCard ∧ t.clkfast = s.clkfast ∧ t.trace = s.trace ++ [.desel])

/-- R159: no session transition exists but those of the table, each at its event; and the states PoweringUp, IdleEntered and Negotiating
exist only while INIT runs. -/
def Obligations.SessionTransitionRelation : Prop :=
  ∀ (s : State), BlockInv s →
    (s.session = .poweringUp ∨ s.session = .idleEntered ∨ s.session = .negotiating →
        s.busy = true ∧ s.lastop.extractLsb' 0 3 = 1#3)
      ∧ ∀ t, step s = .next t → t.session ≠ s.session →
          (nextTurn s = .reset ∧ t.session = .uninitialized)
            ∨ (nextTurn s = .sequencer ∧ sessionEvent s s.session t.session)

/-! ## Sector read (42_block_read.md) -/

/-- The response of a block command: a timeout has failed with CMD_TIMEOUT already; 0x00 begins the token wait of READ and RDPART with the
first poll, and the dummy byte of WRITE; any other response fails with CMD_REJECTED, RESP keeping the card's error bitmap. -/
def Obligations.BlockResponseChecked : Prop :=
  ∀ (s : State), s.cfg.legal = true → BlockInv s → nextTurn s = .sequencer → s.seq.pos = .respDummy →
    s.seq.caller ∈ [Caller.read, .rdpart, .write] →
    ∃ t : State, step s = .next t ∧ dataKept s t ∧ t.resp = s.resp ∧ t.dresp = s.dresp ∧ t.session = s.session ∧ t.att = s.att
      ∧ t.clkfast = s.clkfast
      ∧ (s.resp = 0x00#8 →
          t.busy = true ∧ t.sel = s.sel ∧ t.trace = s.trace ++ [.x 0xFF#8 t.seq.rx]
            ∧ (s.seq.caller = .write → t.seq.pos = .writeDummy)
            ∧ (s.seq.caller ≠ .write → t.seq.pos = .tokenPoll ∧ t.seq.n = 0#16))
      ∧ (s.resp ≠ 0x00#8 →
          t.busy = false ∧ t.done = true ∧ t.fail = true ∧ t.err = .cmdRejected ∧ t.sel = false
            ∧ t.trace = deselectedTrace s)

/-- DATA_TOKEN: the token is not stored; the first data byte of the running READ or RDPART is exchanged with i = 0; nothing else changes. -/
def Obligations.DataTokenBeginsData : Prop :=
  ∀ (s : State),
    exec .dataToken s = .next
      { s with trace := s.trace ++ [.x 0xFF#8 (s.answer 0xFF#8)]
               card := s.card.tail
               draws := s.draws + (if s.card.isEmpty then 1 else 0)
               seq := { s.seq with pos := if s.seq.caller = .rdpart then .partData else .readData,
                                   n := s.seq.n + 1#16, i := 0#10, rx := s.answer 0xFF#8 } }

/-- Every outcome of a token poll: 0xFE leaves the loop at any poll within the budget; in FIRST_NON_FF a byte other than 0xFF and 0xFE fails
with TOKEN_MISMATCH at once; any other byte is discarded, and after TOKEN_POLL_BUDGET polls the wait fails with TOKEN_TIMEOUT. -/
def Obligations.TokenPollOutcomes : Prop :=
  ∀ (s : State), s.cfg.legal = true → BlockInv s → nextTurn s = .sequencer → s.seq.pos = .tokenPoll →
    ∃ t : State, step s = .next t ∧ dataKept s t ∧ t.resp = s.resp ∧ t.dresp = s.dresp ∧ t.session = s.session
      ∧ (s.seq.rx = 0xFE#8 → t.busy = true ∧ t.trace = s.trace ++ [.x 0xFF#8 t.seq.rx] ∧ t.seq.i = 0#10
            ∧ (t.seq.pos = .readData ∨ t.seq.pos = .partData))
      ∧ (s.seq.rx ≠ 0xFE#8 → s.seq.rx ≠ 0xFF#8 → s.cfg.tokenMatchMode = .firstNonFf →
          t.fail = true ∧ t.err = .tokenMismatch ∧ t.busy = false
            ∧ t.trace = deselectedTrace s)
      ∧ (s.seq.rx ≠ 0xFE#8 → s.seq.rx = 0xFF#8 ∨ s.cfg.tokenMatchMode = .skipUntilFe →
          (s.seq.n.toNat + 1 = s.cfg.tokenPollBudget → t.fail = true ∧ t.err = .tokenTimeout ∧ t.busy = false
              ∧ t.trace = deselectedTrace s)
            ∧ (s.seq.n.toNat + 1 < s.cfg.tokenPollBudget → t.busy = true ∧ t.seq.pos = .tokenPoll
              ∧ t.seq.n = s.seq.n + 1#16 ∧ t.trace = s.trace ++ [.x 0xFF#8 t.seq.rx]))

/-- A whole READ, from its request, while no other turn comes between: with the response 0x00 at poll k + 1 within the budget, then bytes to
skip within the token budget, the token and 512 data bytes d, BUF holds d whatever the checksum and filler bytes are, SEL is released
and the READ succeeds after exactly 7 + (k + 1) exchanges of the command, one per skipped byte, one for the token and 515. -/
def Obligations.ReadStoresTheSector : Prop :=
  ∀ (s : State) (ignored : BitVec 5) (frame skip d after : List Byte) (k : Nat) (dummy c1 c2 filler : Byte),
    s.cfg.legal = true → BlockInv s → s.busy = false → s.session = .sdCard ∨ s.session = .mmcCard →
    s.agenda = [.host (.write 0x200#10 1 (ignored ++ 3#3))] →
    frame.length = 6 → k < s.cfg.respPollBudget → skip.length < s.cfg.tokenPollBudget → d.length = 512 →
    (∀ b ∈ skip, b ≠ 0xFE#8 ∧ (s.cfg.tokenMatchMode = .firstNonFf → b = 0xFF#8)) →
    s.card = frame ++ List.replicate k 0xFF#8 ++ [0x00#8, dummy] ++ skip ++ [0xFE#8] ++ d ++ [c1, c2, filler] ++ after →
    ∃ t : State, core.run (2 + (7 + (k + 1)) + (skip.length + 1) + 515) s = .next t
      ∧ (∀ j, j < 512 → Memory.read t.buf j = d[j]?)
      ∧ t.busy = false ∧ t.done = true ∧ t.fail = false ∧ t.err = .none ∧ t.sel = false ∧ t.resp = 0x00#8
      ∧ exchanges t.trace = exchanges s.trace + ((7 + (k + 1)) + (skip.length + 1) + 515)
      ∧ t.session = s.session ∧ t.arg = s.arg ∧ t.dresp = s.dresp ∧ t.card = after

/-- A whole RDPART whose window fits, from its request, while no other turn comes between, with the same answers as a READ: BUF[j] is sector
byte OFFS + j for j below CNT, BUF[j] for the other j is unchanged, and it succeeds after as many exchanges as a READ. -/
def Obligations.RdpartStoresTheWindow : Prop :=
  ∀ (s : State) (ignored : BitVec 5) (frame skip d after : List Byte) (k : Nat) (dummy c1 c2 filler : Byte),
    s.cfg.legal = true → BlockInv s → s.busy = false → s.session = .sdCard ∨ s.session = .mmcCard →
    s.offs.toNat + s.cnt.toNat ≤ 512 →
    s.agenda = [.host (.write 0x200#10 1 (ignored ++ 4#3))] →
    frame.length = 6 → k < s.cfg.respPollBudget → skip.length < s.cfg.tokenPollBudget → d.length = 512 →
    (∀ b ∈ skip, b ≠ 0xFE#8 ∧ (s.cfg.tokenMatchMode = .firstNonFf → b = 0xFF#8)) →
    s.card = frame ++ List.replicate k 0xFF#8 ++ [0x00#8, dummy] ++ skip ++ [0xFE#8] ++ d ++ [c1, c2, filler] ++ after →
    ∃ t : State, core.run (2 + (7 + (k + 1)) + (skip.length + 1) + 515) s = .next t
      ∧ (∀ j, j < s.cnt.toNat → Memory.read t.buf j = d[s.offs.toNat + j]?)
      ∧ (∀ j, s.cnt.toNat ≤ j → Memory.read t.buf j = Memory.read s.buf j)
      ∧ t.busy = false ∧ t.done = true ∧ t.fail = false ∧ t.err = .none ∧ t.sel = false
      ∧ exchanges t.trace = exchanges s.trace + ((7 + (k + 1)) + (skip.length + 1) + 515) ∧ t.card = after

/-- R188: a READ or RDPART that fails leaves BUF unchanged, however many steps it has taken when only the sequencer moves. And for every step but a
reset while an operation runs, whoever's turn it is: only the sequencer storing read data writes BUF; from the first data exchange on the
operation never fails, each step staying in the data, checksum and filler exchanges or succeeding, so every failure comes before them; and a step
that fails leaves BUF unchanged and deselects without a filler byte. -/
def Obligations.FailedReadKeepsBuf : Prop :=
  (∀ (s t : State) (k : Nat), BlockInv s → s.agenda = [] → s.seq.pos = .start .read ∨ s.seq.pos = .start .rdpart →
      core.run k s = .next t → t.fail = true → t.buf = s.buf)
    ∧ ∀ (s t : State), BlockInv s → s.busy = true → nextTurn s ≠ .reset → step s = .next t →
      (t.buf ≠ s.buf → nextTurn s = .sequencer ∧ (s.seq.pos = .readData ∨ s.seq.pos = .partData))
        ∧ (s.seq.pos ∈ [Pos.readData, .partData, .crcFirst, .crcSecond, .trailer] →
            t.fail = false ∧ t.err = .none
              ∧ ((t.busy = true ∧ t.seq.pos ∈ [Pos.readData, .partData, .crcFirst, .crcSecond, .trailer])
                ∨ (t.busy = false ∧ t.done = true ∧ t.seq.pos = .idle)))
        ∧ (t.fail = true → t.buf = s.buf ∧ t.trace = deselectedTrace s)

/-! ## Sector write (43_block_write.md) -/

/-- The write data phase, from the point after the command's response and while only the sequencer moves, is exactly 514 exchanges: 0xFF, 0xFE,
then BUF[0] to BUF[511] in order, every written byte in its place and for each unwritten one a fresh draw (log 5); it writes no register and no
byte of BUF; the next exchange is the first data-response poll. -/
def Obligations.WriteSendsTheBuffer : Prop :=
  ∀ (s : State), s.cfg.legal = true → BlockInv s → s.agenda = [] → s.seq.pos = .respDummy → s.seq.caller = .write →
    s.resp = 0x00#8 →
    ∃ (t u : State) (b : List Byte), core.run 514 s = .next t ∧ core.step t = .next u ∧ b.length = 512
      ∧ (∀ j v, Memory.read s.buf j = some v → b[j]? = some v)
      ∧ (∀ j, j < 512 → Memory.read s.buf j = none → ∃ k, s.draws ≤ k ∧ k < t.draws ∧ b[j]? = some (Config.freeByte k))
      ∧ sentBytes t.trace = sentBytes s.trace ++ [0xFF#8, 0xFE#8] ++ b ∧ exchanges t.trace = exchanges s.trace + 514
      ∧ dataKept s t ∧ t.resp = s.resp ∧ t.dresp = s.dresp ∧ t.session = s.session ∧ t.att = s.att
      ∧ t.sel = s.sel ∧ t.clkfast = s.clkfast ∧ t.busy = true ∧ t.done = s.done ∧ t.fail = s.fail ∧ t.err = s.err
      ∧ u.trace = t.trace ++ [.x 0xFF#8 u.seq.rx] ∧ u.seq.pos = .drespPoll ∧ u.seq.n = 0#16

/-- DRESP_ACCEPTED: DRESP takes the whole byte and the busy wait makes its first poll; DRESP_CRC_REJECTED and DRESP_WRITE_ERROR: DRESP takes
the byte and the WRITE fails at once with WR_CRC_REJECTED or WR_ERROR_REJECTED, with no filler byte. -/
def Obligations.DataResponseRows : Prop :=
  ∀ (s : State) (hi : BitVec 4),
    exec (.drespAccepted hi) s = .next
        { s with dresp := hi ++ 0x5#4
                 trace := s.trace ++ [.x 0xFF#8 (s.answer 0xFF#8)]
                 card := s.card.tail
                 draws := s.draws + (if s.card.isEmpty then 1 else 0)
                 seq := { s.seq with pos := .busyPoll, n := 0#16, rx := s.answer 0xFF#8 } }
      ∧ (∃ t, exec (.drespCrcRejected hi) s = .next t ∧ failedWith .wrCrcRejected { s with dresp := hi ++ 0xB#4 } t)
      ∧ ∃ t, exec (.drespWriteError hi) s = .next t ∧ failedWith .wrErrorRejected { s with dresp := hi ++ 0xD#4 } t

/-- Every outcome of a data-response poll: DRESP takes the byte polled; nibble 0x5 leaves the loop at any poll within the budget, 0xB and
0xD fail at once, any other nibble continues the poll and after WRESP_POLL_BUDGET polls fails with WR_RESP_TIMEOUT. -/
def Obligations.DataResponsePollOutcomes : Prop :=
  ∀ (s : State), s.cfg.legal = true → BlockInv s → nextTurn s = .sequencer → s.seq.pos = .drespPoll →
    ∃ t : State, step s = .next t ∧ dataKept s t ∧ t.resp = s.resp ∧ t.dresp = s.seq.rx ∧ t.session = s.session
      ∧ (s.seq.rx.extractLsb' 0 4 = 0x5#4 → t.busy = true ∧ t.seq.pos = .busyPoll ∧ t.seq.n = 0#16
            ∧ t.trace = s.trace ++ [.x 0xFF#8 t.seq.rx])
      ∧ (s.seq.rx.extractLsb' 0 4 = 0xB#4 → t.busy = false ∧ t.fail = true ∧ t.err = .wrCrcRejected
            ∧ t.trace = deselectedTrace s)
      ∧ (s.seq.rx.extractLsb' 0 4 = 0xD#4 → t.busy = false ∧ t.fail = true ∧ t.err = .wrErrorRejected
            ∧ t.trace = deselectedTrace s)
      ∧ (s.seq.rx.extractLsb' 0 4 ≠ 0x5#4 → s.seq.rx.extractLsb' 0 4 ≠ 0xB#4 → s.seq.rx.extractLsb' 0 4 ≠ 0xD#4 →
          (s.seq.n.toNat + 1 = s.cfg.wrespPollBudget → t.busy = false ∧ t.fail = true ∧ t.err = .wrRespTimeout
              ∧ t.trace = deselectedTrace s)
            ∧ (s.seq.n.toNat + 1 < s.cfg.wrespPollBudget → t.busy = true ∧ t.seq.pos = .drespPoll
              ∧ t.seq.n = s.seq.n + 1#16 ∧ t.trace = s.trace ++ [.x 0xFF#8 t.seq.rx]))

/-- BUSY (0x00 at the busy site): the poll continues inside BUSY_POLL_BUDGET, and at its end the WRITE fails with BUSY_TIMEOUT. -/
def Obligations.BusyRow : Prop :=
  ∀ (s : State), s.cfg.legal = true →
    (s.seq.n.toNat + 1 < s.cfg.busyPollBudget → exec .busy s = .next
        { s with trace := s.trace ++ [.x 0xFF#8 (s.answer 0xFF#8)]
                 card := s.card.tail
                 draws := s.draws + (if s.card.isEmpty then 1 else 0)
                 seq := { s.seq with pos := .busyPoll, n := s.seq.n + 1#16, rx := s.answer 0xFF#8 } })
      ∧ (s.seq.n.toNat + 1 = s.cfg.busyPollBudget → ∃ t, exec .busy s = .next t ∧ failedWith .busyTimeout s t)

/-- A non-zero byte at the busy site ends the busy wait at any poll within the budget; one trailing filler byte 0xFF is sent, and the next
step deselects and succeeds. -/
def Obligations.WriteEndsWithFiller : Prop :=
  ∀ (s : State), s.cfg.legal = true → BlockInv s → s.agenda = [] → s.seq.pos = .busyPoll → s.seq.rx ≠ 0x00#8 →
    ∃ t : State, core.run 2 s = .next t ∧ dataKept s t ∧ t.resp = s.resp ∧ t.dresp = s.dresp ∧ t.session = s.session
      ∧ t.busy = false ∧ t.done = true ∧ t.fail = false ∧ t.err = .none ∧ t.sel = false
      ∧ t.trace = s.trace ++ [.x 0xFF#8 (s.answer 0xFF#8), .desel]

/-! ## Failure and termination -/

/-- A step that fails a running operation deselects if selected with no other bus event, clears BUSY, sets DONE and FAIL, writes ERR,
returns the sequencer to IDLE and changes nothing else but what the failing check itself recorded (RESP at a timeout, DRESP at a data-
response, SESSION at the end of the attempts); the clock is not touched, and it is slow where INIT has failed. -/
def Obligations.FailureEntry : Prop :=
  ∀ (s t : State), BlockInv s → s.busy = true → step s = .next t → t.fail = true →
    failedWith t.err { s with agenda := s.agenda.tail, resp := t.resp, dresp := t.dresp, session := t.session } t
      ∧ t.err ≠ .none
      ∧ (t.session ≠ s.session → t.session = .failed ∧ (t.err = .idleFailed ∨ t.err = .initFailed))
      ∧ (t.resp ≠ s.resp → t.resp = 0xFF#8) ∧ (t.dresp ≠ s.dresp → t.dresp = s.seq.rx)
      ∧ (t.session = .failed → t.clkfast = false)

/-- Every accepted operation completes, with no more exchanges than its bound (one SendCommand at most 7 + RESP_POLL_BUDGET), when only the
sequencer moves. -/
def Obligations.OperationsTerminate : Prop :=
  ∀ (s : State) (op : Op), s.cfg.legal = true → BlockInv s → s.agenda = [] → s.seq.pos = .start op →
    ∃ (k : Nat) (t : State), k ≤ exchangeBound s.cfg op + 1 ∧ core.run k s = .next t ∧ t.busy = false ∧ t.done = true
      ∧ exchanges t.trace ≤ exchanges s.trace + exchangeBound s.cfg op

/-! ## The host's registers -/

/-- STATUS, bit by bit: BUSY, DONE, FAIL, SEL, CLKFAST, and bits 7:5 reading 0. -/
def Obligations.StatusBits : Prop :=
  ∀ (s : State),
    (statusByte s).getLsbD 0 = s.busy ∧ (statusByte s).getLsbD 1 = s.done ∧ (statusByte s).getLsbD 2 = s.fail
      ∧ (statusByte s).getLsbD 3 = s.sel ∧ (statusByte s).getLsbD 4 = s.clkfast ∧ (statusByte s).extractLsb' 5 3 = 0#3

/-- A one-byte host read appends the value read to what the host has read and changes nothing of the block; the value is a BUF byte's, or the
register's of R22, ERR and SESSION by their codes 0x0 to 0xE and 0 to 6, with reserved addresses reading 0x00. -/
def Obligations.HostReadReturnsRegister : Prop :=
  ∀ (s : State) (a : BitVec 10), s.cfg.legal = true → nextTurn s = .host (.read a 1) →
    ∃ (t : State) (v : Byte), step s = .next t
      ∧ t = { s with agenda := s.agenda.tail, reads := s.reads ++ [{ addr := a, value := v }], draws := t.draws }
      ∧ (∀ b, a.toNat < 512 → s.busy = false → Memory.read s.buf a.toNat = some b → v = b ∧ t.draws = s.draws)
      ∧ (a = 0x200#10 → v = s.lastop) ∧ (a = 0x201#10 → v = statusByte s)
      ∧ (a = 0x202#10 → (s.err, v) ∈ [(ErrCode.none, 0x0#8), (.cmdTimeout, 0x1#8), (.cmdRejected, 0x2#8), (.tokenTimeout, 0x3#8),
          (.tokenMismatch, 0x4#8), (.wrCrcRejected, 0x5#8), (.wrErrorRejected, 0x6#8), (.wrRespTimeout, 0x7#8),
          (.busyTimeout, 0x8#8), (.idleFailed, 0x9#8), (.initFailed, 0xA#8), (.paramError, 0xB#8), (.notReady, 0xC#8),
          (.seqError, 0xD#8), (.badOp, 0xE#8)])
      ∧ (a = 0x203#10 → v = s.resp) ∧ (a = 0x204#10 → v = s.dresp)
      ∧ (a = 0x205#10 → (s.session, v) ∈ [(Session.uninitialized, 0#8), (.poweringUp, 1#8), (.idleEntered, 2#8), (.negotiating, 3#8),
          (.sdCard, 4#8), (.mmcCard, 5#8), (.failed, 6#8)])
      ∧ (a = 0x206#10 → v = s.att.extractLsb' 0 8) ∧ (a = 0x207#10 → v = s.att.extractLsb' 8 8)
      ∧ (a = 0x208#10 → v = s.arg.extractLsb' 0 8) ∧ (a = 0x209#10 → v = s.arg.extractLsb' 8 8)
      ∧ (a = 0x20A#10 → v = s.arg.extractLsb' 16 8) ∧ (a = 0x20B#10 → v = s.arg.extractLsb' 24 8)
      ∧ (a = 0x20C#10 → v = s.offs.extractLsb' 0 8) ∧ (a = 0x20D#10 → v = 0#6 ++ s.offs.extractLsb' 8 2)
      ∧ (a = 0x20E#10 → v = s.cnt.extractLsb' 0 8) ∧ (a = 0x20F#10 → v = 0#6 ++ s.cnt.extractLsb' 8 2)
      ∧ (0x210 ≤ a.toNat → v = 0x00#8) ∧ (512 ≤ a.toNat → t.draws = s.draws)

/-- R69: while BUSY = 1 a host write of any address has no effect, and a host read of a BUF address is a fresh draw. -/
def Obligations.BusyShutsTheHostOut : Prop :=
  ∀ (s : State) (a : BitVec 10) (v : Byte), s.cfg.legal = true → s.busy = true →
    (nextTurn s = .host (.write a 1 v) → step s = .next (turnTaken s))
      ∧ (nextTurn s = .host (.read a 1) → a.toNat < 512 → step s = .next
          { s with agenda := s.agenda.tail, draws := s.draws + 1
                   reads := s.reads ++ [{ addr := a, value := Config.freeByte s.draws }] })
      ∧ (nextTurn s = .host (.read a 1) → 512 ≤ a.toNat → step s = .next
          { s with agenda := s.agenda.tail, reads := s.reads ++ [{ addr := a, value := registerByte s a.toNat }] })

/-- A BUF byte nothing has written since reset reads as a fresh draw. -/
def Obligations.UnwrittenBufIsFresh : Prop :=
  ∀ (s : State) (a : BitVec 10), s.cfg.legal = true → nextTurn s = .host (.read a 1) → a.toNat < 512 →
    Memory.read s.buf a.toNat = none →
    step s = .next { s with agenda := s.agenda.tail, draws := s.draws + 1
                            reads := s.reads ++ [{ addr := a, value := Config.freeByte s.draws }] }

/-- A host write while BUSY = 0: a BUF byte is stored and every other BUF byte keeps its value; ARG, OFFS and CNT take the byte in its
place, OFFS_HI and CNT_HI only bits 1:0; the other addresses but OPREQ ignore it. Nothing else changes. -/
def Obligations.HostWriteStoresParameter : Prop :=
  ∀ (s : State) (a : BitVec 10) (v : Byte), s.cfg.legal = true → s.busy = false → nextTurn s = .host (.write a 1 v) →
    a ≠ 0x200#10 →
    ∃ t : State, step s = .next t
      ∧ t = { s with agenda := s.agenda.tail, buf := t.buf, arg := t.arg, offs := t.offs, cnt := t.cnt }
      ∧ (a.toNat < 512 → Memory.read t.buf a.toNat = some v
          ∧ ∀ j, j ≠ a.toNat → Memory.read t.buf j = Memory.read s.buf j)
      ∧ (512 ≤ a.toNat → t.buf = s.buf)
      ∧ (∀ j, j < 4 → t.arg.extractLsb' (8 * j) 8 = if a.toNat = 0x208 + j then v else s.arg.extractLsb' (8 * j) 8)
      ∧ t.offs.extractLsb' 0 8 = (if a = 0x20C#10 then v else s.offs.extractLsb' 0 8)
      ∧ t.offs.extractLsb' 8 2 = (if a = 0x20D#10 then v.extractLsb' 0 2 else s.offs.extractLsb' 8 2)
      ∧ t.cnt.extractLsb' 0 8 = (if a = 0x20E#10 then v else s.cnt.extractLsb' 0 8)
      ∧ t.cnt.extractLsb' 8 2 = (if a = 0x20F#10 then v.extractLsb' 0 2 else s.cnt.extractLsb' 8 2)

/-- No step but a host write or a reset changes ARG, OFFS or CNT; no step changes the configuration. -/
def Obligations.OperationsKeepParameters : Prop :=
  ∀ (s t : State), step s = .next t →
    t.cfg = s.cfg
      ∧ (nextTurn s ≠ .reset → (∀ a w v, nextTurn s ≠ .host (.write a w v)) →
          t.arg = s.arg ∧ t.offs = s.offs ∧ t.cnt = s.cnt ∧ t.lastop = s.lastop)

/-- RESP changes only at the end of a response poll, DRESP only at a data-response poll or the acceptance of a WRITE, ATT only in INIT, and all of
them at a reset. The clock level changes, but for a reset, only at INIT's success, which makes it fast and emits CLK(FAST) after DESEL; so
SENDCMD, READ, RDPART and WRITE keep it, and SESSION, in every step, and so does every failure. -/
def Obligations.ResultRegistersWriters : Prop :=
  ∀ (s t : State), BlockInv s → step s = .next t → nextTurn s ≠ .reset →
    (t.resp ≠ s.resp → s.seq.pos = .respPoll ∧ t.resp = s.seq.rx)
      ∧ (t.dresp ≠ s.dresp → (s.seq.pos = .drespPoll ∧ t.dresp = s.seq.rx)
          ∨ (s.busy = false ∧ t.dresp = 0xFF#8 ∧ t.seq.pos = .start .write))
      ∧ (t.att ≠ s.att → s.busy = true ∧ s.lastop.extractLsb' 0 3 = 1#3 ∧ t.seq.pos = .frame 1)
      ∧ (t.clkfast ≠ s.clkfast → s.busy = true ∧ s.lastop.extractLsb' 0 3 = 1#3 ∧ t.clkfast = true ∧ t.busy = false
          ∧ (t.session = .sdCard ∨ t.session = .mmcCard) ∧ t.trace = s.trace ++ [.desel, .clk .fast])
      ∧ (s.busy = true → s.lastop.extractLsb' 0 3 ≠ 1#3 → t.clkfast = s.clkfast ∧ t.session = s.session)
      ∧ (t.fail = true → t.clkfast = s.clkfast)

/-- The pseudo-instructions load their register: after the turns of LDARG v, LDOFFS v and LDCNT v with BUSY = 0, ARG, OFFS and CNT hold v
and nothing else has changed. -/
def Obligations.PseudoInstructionsLoad : Prop :=
  ∀ (s : State) (v : BitVec 32) (w : BitVec 10), s.cfg.legal = true → s.busy = false →
    core.run 4 { s with agenda := HostProgram.ldarg v } = .next { s with agenda := [], arg := v }
      ∧ core.run 2 { s with agenda := HostProgram.ldoffs w } = .next { s with agenda := [], offs := w }
      ∧ core.run 2 { s with agenda := HostProgram.ldcnt w } = .next { s with agenda := [], cnt := w }

/-- Every sequencer step that makes the first exchange of a frame, from whatever operation calls SendCommand, runs the row of that frame's
command and argument, in a state that has made no exchange in this step and in which the step has written none of BUF, LASTOP, ARG, OFFS and CNT. -/
def Obligations.StepsThatBeginAFrameRunItsRow : Prop :=
  ∀ (s t : State), step s = .next t → nextTurn s = .sequencer → t.seq.pos = .frame 1 →
    ∃ u : State, step s = exec (frameInstr t.seq.cmd t.seq.arg) u ∧ exchanges u.trace = exchanges s.trace
      ∧ u.card = s.card ∧ u.draws = s.draws ∧ dataKept s u
end

