-- ==== Sys2Proof/Laws/Encoding.lean ====
section
/-! SUPPORT. The bits of a frame and of six joined bytes, so that proofs about encodings need not unfold the concatenations. -/

namespace Sys2Proof.Laws

/-- Every bit of a frame (30_encoding.md R85). -/
theorem frameWord_getLsbD (b : Byte) (arg : BitVec 32) (j : Nat) :
    (frameWord b arg).getLsbD j =
      if j < 8 then trailerByte.getLsbD j else if j - 8 < 32 then arg.getLsbD (j - 8) else b.getLsbD (j - 40) := by
  have outer := BitVec.getLsbD_append (x := b ++ arg) (y := trailerByte) (i := j)
  have inner := BitVec.getLsbD_append (x := b) (y := arg) (i := j - 8)
  refine outer.trans ?_
  by_cases h : j < 8
  · simp [h]
  · rw [if_neg h, if_neg h]
    refine inner.trans ?_
    rw [Nat.sub_sub]

/-- Joining the six bytes of a 48-bit value gives it back. -/
theorem joinFrame_frameByte (w : FrameWord) :
    joinFrame (frameByte w 0) (frameByte w 1) (frameByte w 2) (frameByte w 3) (frameByte w 4) (frameByte w 5) = w := by
  apply BitVec.eq_of_getLsbD_eq
  intro i hi
  change (frameByte w 0 ++ frameByte w 1 ++ frameByte w 2 ++ frameByte w 3 ++ frameByte w 4 ++ frameByte w 5
    : BitVec (8 + 8 + 8 + 8 + 8 + 8)).getLsbD i = _
  simp only [BitVec.getLsbD_append, frameByte, BitVec.getLsbD_extractLsb']
  repeat' split
  · rw [show 8 * (5 - 5) + i = i by omega]; simp_all
  · rw [show 8 * (5 - 4) + (i - 8) = i by omega]; simp_all
  · rw [show 8 * (5 - 3) + (i - 8 - 8) = i by omega]; simp_all
  · rw [show 8 * (5 - 2) + (i - 8 - 8 - 8) = i by omega]; simp_all
  · rw [show 8 * (5 - 1) + (i - 8 - 8 - 8 - 8) = i by omega]; simp_all
  · rw [show 8 * (5 - 0) + (i - 8 - 8 - 8 - 8 - 8) = i by omega]
    simp only [Bool.and_eq_right_iff_imp, decide_eq_true_eq]
    omega

/-- The decoder reads the bytes of a frame as the frame's word. -/
theorem decodeBytes_frameBytes (cfg : Config) (b : Byte) (arg : BitVec 32) :
    decodeBytes cfg .frame (frameBytes b arg) = decodeFrame cfg (frameWord b arg) :=
  congrArg (decodeFrame cfg) (joinFrame_frameByte (frameWord b arg))

end Sys2Proof.Laws
end

