-- ==== Sys2Proof/Laws/Memory.lean ====
section
/-! SUPPORT. BUF as memory: read after write, a write elsewhere, and the canonical form. -/

namespace Sys2Proof.Laws

open Sys2Proof.Machine

/-- A byte reads back as written. -/
@[simp] theorem read_write_same (m : List Host.Cell) (a : Nat) (b : Byte) :
    Memory.read (Memory.write m a b) a = some b := by
  induction m with
  | nil => simp [Memory.write, Memory.read]
  | cons x r ih =>
    obtain ⟨k, v⟩ := x
    simp only [Memory.write]
    split
    · simp [Memory.read]
    · split
      · simp [Memory.read]
      · rw [Memory.read, if_neg (by omega), ih]

/-- A write leaves every other byte alone. -/
theorem read_write_other (m : List Host.Cell) {a j : Nat} (b : Byte) (h : j ≠ a) :
    Memory.read (Memory.write m a b) j = Memory.read m j := by
  induction m with
  | nil => simp [Memory.write, Memory.read, Ne.symm h]
  | cons x r ih =>
    obtain ⟨k, v⟩ := x
    simp only [Memory.write]
    split
    · simp [Memory.read, Ne.symm h]
    · split
      · subst_vars; simp [Memory.read, Ne.symm h]
      · simp [Memory.read, ih]

/-- A cell of a written memory is the written one or an old one. -/
theorem mem_write {m : List Host.Cell} {a : Nat} {b : Byte} {c : Host.Cell} (h : c ∈ Memory.write m a b) :
    c = (a, b) ∨ c ∈ m := by
  induction m with
  | nil => simpa [Memory.write] using h
  | cons x r ih =>
    obtain ⟨k, v⟩ := x
    simp only [Memory.write] at h
    split at h
    · simpa using h
    · split at h
      · simp only [List.mem_cons] at h ⊢; tauto
      · simp only [List.mem_cons] at h ⊢
        rcases h with h | h
        · tauto
        · have := ih h; tauto

/-- Every store to an index below 512 keeps the canonical form. -/
theorem write_wf {m : List Host.Cell} {a : Nat} (b : Byte) (h : Memory.wf m) (ha : a < 512) :
    Memory.wf (Memory.write m a b) := by
  obtain ⟨rising, below⟩ := h
  refine ⟨?_, fun c hc => ?_⟩
  · clear below
    induction m with
    | nil => simp [Memory.write]
    | cons x r ih =>
      obtain ⟨k, v⟩ := x
      simp only [List.map_cons, List.pairwise_cons, List.mem_map, Prod.exists, exists_and_right, exists_eq_right,
        forall_exists_index] at rising
      simp only [Memory.write]
      split
      · simp only [List.map_cons, List.pairwise_cons, List.mem_cons, List.mem_map, Prod.exists, exists_and_right,
          exists_eq_right, forall_eq_or_imp, forall_exists_index]
        exact ⟨⟨by assumption, fun y z hy => by have := rising.1 y z hy; omega⟩, rising⟩
      · split
        · subst_vars
          simp only [List.map_cons, List.pairwise_cons, List.mem_map, Prod.exists, exists_and_right, exists_eq_right,
            forall_exists_index]
          exact rising
        · simp only [List.map_cons, List.pairwise_cons, List.mem_map, Prod.exists, exists_and_right, exists_eq_right,
            forall_exists_index]
          refine ⟨fun y z hy => ?_, ih rising.2⟩
          rcases mem_write hy with e | e
          · cases e; omega
          · exact rising.1 _ _ e
  · rcases mem_write hc with e | e
    · subst e; exact ha
    · exact below _ e

/-- Nothing is listed at reset. -/
theorem reset_buf_wf : Memory.wf State.reset.buf := by simp [State.reset, Memory.wf]

/-- Storing read data keeps the canonical form. -/
theorem storeBuf_wf {s : State} {i : Nat} (v : Byte) (h : Memory.wf s.buf) (hi : i < 512) :
    Memory.wf (storeBuf i v s).buf := write_wf v h hi

end Sys2Proof.Laws
end

