-- ==== Sys2Proof/Laws/Invariant.lean ====
section
/-! SUPPORT. A computable check of the invariant, so that a concrete state is shown to meet it by evaluation. -/

namespace Sys2Proof.Laws

open Sys2Proof.Machine

/-- The invariant but for the canonical form of BUF, as a computation. -/
def invariantHolds (s : State) : Bool :=
  coherent s
    && (!s.sel || s.busy)
    && (!s.busy || (!s.done && !s.fail))
    && (!s.fail || s.done)
    && (s.fail == (s.err != .none))
    && (s.lastop &&& 0x88#8) == 0#8
    && (match runningOp s.seq.pos s.seq.caller with
        | some op => s.lastop.extractLsb' 0 3 == opField op
        | none => true)
    && (s.seq.pos != .start .sendcmd || (cmdsel s.lastop).toNat < 4)
    && (!s.clkfast || sessionReady s.session)
    && placeFits s.seq.pos s.seq.caller s.session
    && countersFit s
    && attemptsFit s
    && (s.seq.pos != .respDummy || (!s.seq.timedout && s.seq.r == s.resp && s.seq.r != notReadyByte))

/-- The check is sound. -/
theorem blockInv_of_check {s : State} (hb : Memory.wf s.buf) (h : invariantHolds s = true) : BlockInv s := by
  simp only [invariantHolds, Bool.and_eq_true] at h
  obtain ⟨⟨⟨⟨⟨⟨⟨⟨⟨⟨⟨⟨h1, h2⟩, h3⟩, h4⟩, h5⟩, h6⟩, h7⟩, h8⟩, h9⟩, h10⟩, h11⟩, h12⟩, h13⟩ := h
  refine ⟨hb, h1, ?_, ?_, ?_, ?_, by simpa using h6, ?_, ?_, ?_, h10, h11, h12, ?_⟩
  · intro hs; simpa [hs] using h2
  · intro hs; simpa [hs] using h3
  · intro hs; simpa [hs] using h4
  · cases hf : s.fail <;> cases he : s.err <;> simp_all
  · intro op ho; simpa [ho] using h7
  · intro hp; simpa [hp] using h8
  · intro hs; simpa [hs] using h9
  · intro hp; simpa [hp, and_assoc] using h13

/-- The invariant asks of BUF its canonical form only. -/
theorem blockInv_withBuf {s : State} {b : List Host.Cell} (h : BlockInv s) (hb : Memory.wf b) :
    BlockInv { s with buf := b } := by
  obtain ⟨-, h1, h2, h3, h4, h5, h6, h7, h8, h9, h10, h11, h12, h13⟩ := h
  exact ⟨hb, h1, h2, h3, h4, h5, h6, h7, h8, h9, h10, h11, h12, h13⟩

/-- BUF with every byte written. -/
def fullBuf (f : Nat → Byte) : List Host.Cell := (List.range 512).map fun i => (i, f i)

/-- It is canonical. -/
theorem fullBuf_wf (f : Nat → Byte) : Memory.wf (fullBuf f) := by
  refine ⟨?_, fun c hc => ?_⟩
  · rw [fullBuf, List.map_map]
    exact (List.map_id (List.range 512)).symm ▸ List.pairwise_lt_range
  · simp only [fullBuf, List.mem_map, List.mem_range] at hc
    obtain ⟨i, hi, rfl⟩ := hc
    exact hi

/-- A listed run of consecutive bytes reads as its function says. -/
theorem read_run (f : Nat → Byte) (n start j : Nat) (h : start ≤ j) (hj : j < start + n) :
    Memory.read ((List.range' start n).map fun i => (i, f i)) j = some (f j) := by
  induction n generalizing start with
  | zero => omega
  | succ n ih =>
    rw [List.range'_succ, List.map_cons, Memory.read]
    by_cases e : start = j
    · simp [e]
    · rw [if_neg e]
      exact ih (start + 1) (by omega) (by omega)

/-- BUF with every byte written reads as its function says. -/
theorem fullBuf_read (f : Nat → Byte) {j : Nat} (h : j < 512) : Memory.read (fullBuf f) j = some (f j) := by
  rw [fullBuf, List.range_eq_range']
  exact read_run f 512 0 j (by omega) (by omega)

end Sys2Proof.Laws
end

