-- ==== Sys2Proof/Laws/State.lean ====
section
/-! SUPPORT. One lemma per field of State per shared update, so that no proof unfolds a record update. -/

namespace Sys2Proof.Laws

open Sys2Proof.Machine

/-! ### exchangeAt -/

@[simp] theorem exchangeAt_cfg (p : Pos) (tx : Byte) (s : State) : (exchangeAt p tx s).cfg = s.cfg := rfl
@[simp] theorem exchangeAt_buf (p : Pos) (tx : Byte) (s : State) : (exchangeAt p tx s).buf = s.buf := rfl
@[simp] theorem exchangeAt_lastop (p : Pos) (tx : Byte) (s : State) : (exchangeAt p tx s).lastop = s.lastop := rfl
@[simp] theorem exchangeAt_busy (p : Pos) (tx : Byte) (s : State) : (exchangeAt p tx s).busy = s.busy := rfl
@[simp] theorem exchangeAt_done (p : Pos) (tx : Byte) (s : State) : (exchangeAt p tx s).done = s.done := rfl
@[simp] theorem exchangeAt_fail (p : Pos) (tx : Byte) (s : State) : (exchangeAt p tx s).fail = s.fail := rfl
@[simp] theorem exchangeAt_sel (p : Pos) (tx : Byte) (s : State) : (exchangeAt p tx s).sel = s.sel := rfl
@[simp] theorem exchangeAt_clkfast (p : Pos) (tx : Byte) (s : State) : (exchangeAt p tx s).clkfast = s.clkfast := rfl
@[simp] theorem exchangeAt_err (p : Pos) (tx : Byte) (s : State) : (exchangeAt p tx s).err = s.err := rfl
@[simp] theorem exchangeAt_resp (p : Pos) (tx : Byte) (s : State) : (exchangeAt p tx s).resp = s.resp := rfl
@[simp] theorem exchangeAt_dresp (p : Pos) (tx : Byte) (s : State) : (exchangeAt p tx s).dresp = s.dresp := rfl
@[simp] theorem exchangeAt_session (p : Pos) (tx : Byte) (s : State) : (exchangeAt p tx s).session = s.session := rfl
@[simp] theorem exchangeAt_att (p : Pos) (tx : Byte) (s : State) : (exchangeAt p tx s).att = s.att := rfl
@[simp] theorem exchangeAt_arg (p : Pos) (tx : Byte) (s : State) : (exchangeAt p tx s).arg = s.arg := rfl
@[simp] theorem exchangeAt_offs (p : Pos) (tx : Byte) (s : State) : (exchangeAt p tx s).offs = s.offs := rfl
@[simp] theorem exchangeAt_cnt (p : Pos) (tx : Byte) (s : State) : (exchangeAt p tx s).cnt = s.cnt := rfl
@[simp] theorem exchangeAt_seq (p : Pos) (tx : Byte) (s : State) : (exchangeAt p tx s).seq = { s.seq with pos := p, rx := s.answer tx } := rfl
@[simp] theorem exchangeAt_trace (p : Pos) (tx : Byte) (s : State) : (exchangeAt p tx s).trace = s.trace ++ [.x tx (s.answer tx)] := rfl
@[simp] theorem exchangeAt_agenda (p : Pos) (tx : Byte) (s : State) : (exchangeAt p tx s).agenda = s.agenda := rfl
@[simp] theorem exchangeAt_card (p : Pos) (tx : Byte) (s : State) : (exchangeAt p tx s).card = s.card.tail := rfl
@[simp] theorem exchangeAt_reads (p : Pos) (tx : Byte) (s : State) : (exchangeAt p tx s).reads = s.reads := rfl
@[simp] theorem exchangeAt_draws (p : Pos) (tx : Byte) (s : State) : (exchangeAt p tx s).draws = s.draws + (if s.card.isEmpty then 1 else 0) := rfl

/-! ### select -/

@[simp] theorem select_cfg (s : State) : (select s).cfg = s.cfg := rfl
@[simp] theorem select_buf (s : State) : (select s).buf = s.buf := rfl
@[simp] theorem select_lastop (s : State) : (select s).lastop = s.lastop := rfl
@[simp] theorem select_busy (s : State) : (select s).busy = s.busy := rfl
@[simp] theorem select_done (s : State) : (select s).done = s.done := rfl
@[simp] theorem select_fail (s : State) : (select s).fail = s.fail := rfl
@[simp] theorem select_sel (s : State) : (select s).sel = true := rfl
@[simp] theorem select_clkfast (s : State) : (select s).clkfast = s.clkfast := rfl
@[simp] theorem select_err (s : State) : (select s).err = s.err := rfl
@[simp] theorem select_resp (s : State) : (select s).resp = s.resp := rfl
@[simp] theorem select_dresp (s : State) : (select s).dresp = s.dresp := rfl
@[simp] theorem select_session (s : State) : (select s).session = s.session := rfl
@[simp] theorem select_att (s : State) : (select s).att = s.att := rfl
@[simp] theorem select_arg (s : State) : (select s).arg = s.arg := rfl
@[simp] theorem select_offs (s : State) : (select s).offs = s.offs := rfl
@[simp] theorem select_cnt (s : State) : (select s).cnt = s.cnt := rfl
@[simp] theorem select_seq (s : State) : (select s).seq = s.seq := rfl
@[simp] theorem select_trace (s : State) : (select s).trace = s.trace ++ [.sel] := rfl
@[simp] theorem select_agenda (s : State) : (select s).agenda = s.agenda := rfl
@[simp] theorem select_card (s : State) : (select s).card = s.card := rfl
@[simp] theorem select_reads (s : State) : (select s).reads = s.reads := rfl
@[simp] theorem select_draws (s : State) : (select s).draws = s.draws := rfl

/-! ### deselect -/

@[simp] theorem deselect_cfg (s : State) : (deselect s).cfg = s.cfg := rfl
@[simp] theorem deselect_buf (s : State) : (deselect s).buf = s.buf := rfl
@[simp] theorem deselect_lastop (s : State) : (deselect s).lastop = s.lastop := rfl
@[simp] theorem deselect_busy (s : State) : (deselect s).busy = s.busy := rfl
@[simp] theorem deselect_done (s : State) : (deselect s).done = s.done := rfl
@[simp] theorem deselect_fail (s : State) : (deselect s).fail = s.fail := rfl
@[simp] theorem deselect_sel (s : State) : (deselect s).sel = false := rfl
@[simp] theorem deselect_clkfast (s : State) : (deselect s).clkfast = s.clkfast := rfl
@[simp] theorem deselect_err (s : State) : (deselect s).err = s.err := rfl
@[simp] theorem deselect_resp (s : State) : (deselect s).resp = s.resp := rfl
@[simp] theorem deselect_dresp (s : State) : (deselect s).dresp = s.dresp := rfl
@[simp] theorem deselect_session (s : State) : (deselect s).session = s.session := rfl
@[simp] theorem deselect_att (s : State) : (deselect s).att = s.att := rfl
@[simp] theorem deselect_arg (s : State) : (deselect s).arg = s.arg := rfl
@[simp] theorem deselect_offs (s : State) : (deselect s).offs = s.offs := rfl
@[simp] theorem deselect_cnt (s : State) : (deselect s).cnt = s.cnt := rfl
@[simp] theorem deselect_seq (s : State) : (deselect s).seq = s.seq := rfl
@[simp] theorem deselect_trace (s : State) : (deselect s).trace = s.trace ++ [.desel] := rfl
@[simp] theorem deselect_agenda (s : State) : (deselect s).agenda = s.agenda := rfl
@[simp] theorem deselect_card (s : State) : (deselect s).card = s.card := rfl
@[simp] theorem deselect_reads (s : State) : (deselect s).reads = s.reads := rfl
@[simp] theorem deselect_draws (s : State) : (deselect s).draws = s.draws := rfl

/-! ### setClock -/

@[simp] theorem setClock_cfg (level : ClockLevel) (s : State) : (setClock level s).cfg = s.cfg := rfl
@[simp] theorem setClock_buf (level : ClockLevel) (s : State) : (setClock level s).buf = s.buf := rfl
@[simp] theorem setClock_lastop (level : ClockLevel) (s : State) : (setClock level s).lastop = s.lastop := rfl
@[simp] theorem setClock_busy (level : ClockLevel) (s : State) : (setClock level s).busy = s.busy := rfl
@[simp] theorem setClock_done (level : ClockLevel) (s : State) : (setClock level s).done = s.done := rfl
@[simp] theorem setClock_fail (level : ClockLevel) (s : State) : (setClock level s).fail = s.fail := rfl
@[simp] theorem setClock_sel (level : ClockLevel) (s : State) : (setClock level s).sel = s.sel := rfl
@[simp] theorem setClock_clkfast (level : ClockLevel) (s : State) : (setClock level s).clkfast = (level == .fast) := rfl
@[simp] theorem setClock_err (level : ClockLevel) (s : State) : (setClock level s).err = s.err := rfl
@[simp] theorem setClock_resp (level : ClockLevel) (s : State) : (setClock level s).resp = s.resp := rfl
@[simp] theorem setClock_dresp (level : ClockLevel) (s : State) : (setClock level s).dresp = s.dresp := rfl
@[simp] theorem setClock_session (level : ClockLevel) (s : State) : (setClock level s).session = s.session := rfl
@[simp] theorem setClock_att (level : ClockLevel) (s : State) : (setClock level s).att = s.att := rfl
@[simp] theorem setClock_arg (level : ClockLevel) (s : State) : (setClock level s).arg = s.arg := rfl
@[simp] theorem setClock_offs (level : ClockLevel) (s : State) : (setClock level s).offs = s.offs := rfl
@[simp] theorem setClock_cnt (level : ClockLevel) (s : State) : (setClock level s).cnt = s.cnt := rfl
@[simp] theorem setClock_seq (level : ClockLevel) (s : State) : (setClock level s).seq = s.seq := rfl
@[simp] theorem setClock_trace (level : ClockLevel) (s : State) : (setClock level s).trace = s.trace ++ [.clk level] := rfl
@[simp] theorem setClock_agenda (level : ClockLevel) (s : State) : (setClock level s).agenda = s.agenda := rfl
@[simp] theorem setClock_card (level : ClockLevel) (s : State) : (setClock level s).card = s.card := rfl
@[simp] theorem setClock_reads (level : ClockLevel) (s : State) : (setClock level s).reads = s.reads := rfl
@[simp] theorem setClock_draws (level : ClockLevel) (s : State) : (setClock level s).draws = s.draws := rfl

/-! ### countPoll -/

@[simp] theorem countPoll_cfg (s : State) : (countPoll s).cfg = s.cfg := rfl
@[simp] theorem countPoll_buf (s : State) : (countPoll s).buf = s.buf := rfl
@[simp] theorem countPoll_lastop (s : State) : (countPoll s).lastop = s.lastop := rfl
@[simp] theorem countPoll_busy (s : State) : (countPoll s).busy = s.busy := rfl
@[simp] theorem countPoll_done (s : State) : (countPoll s).done = s.done := rfl
@[simp] theorem countPoll_fail (s : State) : (countPoll s).fail = s.fail := rfl
@[simp] theorem countPoll_sel (s : State) : (countPoll s).sel = s.sel := rfl
@[simp] theorem countPoll_clkfast (s : State) : (countPoll s).clkfast = s.clkfast := rfl
@[simp] theorem countPoll_err (s : State) : (countPoll s).err = s.err := rfl
@[simp] theorem countPoll_resp (s : State) : (countPoll s).resp = s.resp := rfl
@[simp] theorem countPoll_dresp (s : State) : (countPoll s).dresp = s.dresp := rfl
@[simp] theorem countPoll_session (s : State) : (countPoll s).session = s.session := rfl
@[simp] theorem countPoll_att (s : State) : (countPoll s).att = s.att := rfl
@[simp] theorem countPoll_arg (s : State) : (countPoll s).arg = s.arg := rfl
@[simp] theorem countPoll_offs (s : State) : (countPoll s).offs = s.offs := rfl
@[simp] theorem countPoll_cnt (s : State) : (countPoll s).cnt = s.cnt := rfl
@[simp] theorem countPoll_seq (s : State) : (countPoll s).seq = { s.seq with n := s.seq.n + 1#16 } := rfl
@[simp] theorem countPoll_trace (s : State) : (countPoll s).trace = s.trace := rfl
@[simp] theorem countPoll_agenda (s : State) : (countPoll s).agenda = s.agenda := rfl
@[simp] theorem countPoll_card (s : State) : (countPoll s).card = s.card := rfl
@[simp] theorem countPoll_reads (s : State) : (countPoll s).reads = s.reads := rfl
@[simp] theorem countPoll_draws (s : State) : (countPoll s).draws = s.draws := rfl

/-! ### clearPolls -/

@[simp] theorem clearPolls_cfg (s : State) : (clearPolls s).cfg = s.cfg := rfl
@[simp] theorem clearPolls_buf (s : State) : (clearPolls s).buf = s.buf := rfl
@[simp] theorem clearPolls_lastop (s : State) : (clearPolls s).lastop = s.lastop := rfl
@[simp] theorem clearPolls_busy (s : State) : (clearPolls s).busy = s.busy := rfl
@[simp] theorem clearPolls_done (s : State) : (clearPolls s).done = s.done := rfl
@[simp] theorem clearPolls_fail (s : State) : (clearPolls s).fail = s.fail := rfl
@[simp] theorem clearPolls_sel (s : State) : (clearPolls s).sel = s.sel := rfl
@[simp] theorem clearPolls_clkfast (s : State) : (clearPolls s).clkfast = s.clkfast := rfl
@[simp] theorem clearPolls_err (s : State) : (clearPolls s).err = s.err := rfl
@[simp] theorem clearPolls_resp (s : State) : (clearPolls s).resp = s.resp := rfl
@[simp] theorem clearPolls_dresp (s : State) : (clearPolls s).dresp = s.dresp := rfl
@[simp] theorem clearPolls_session (s : State) : (clearPolls s).session = s.session := rfl
@[simp] theorem clearPolls_att (s : State) : (clearPolls s).att = s.att := rfl
@[simp] theorem clearPolls_arg (s : State) : (clearPolls s).arg = s.arg := rfl
@[simp] theorem clearPolls_offs (s : State) : (clearPolls s).offs = s.offs := rfl
@[simp] theorem clearPolls_cnt (s : State) : (clearPolls s).cnt = s.cnt := rfl
@[simp] theorem clearPolls_seq (s : State) : (clearPolls s).seq = { s.seq with n := 0#16 } := rfl
@[simp] theorem clearPolls_trace (s : State) : (clearPolls s).trace = s.trace := rfl
@[simp] theorem clearPolls_agenda (s : State) : (clearPolls s).agenda = s.agenda := rfl
@[simp] theorem clearPolls_card (s : State) : (clearPolls s).card = s.card := rfl
@[simp] theorem clearPolls_reads (s : State) : (clearPolls s).reads = s.reads := rfl
@[simp] theorem clearPolls_draws (s : State) : (clearPolls s).draws = s.draws := rfl

/-! ### setIndex -/

@[simp] theorem setIndex_cfg (v : BitVec 10) (s : State) : (setIndex v s).cfg = s.cfg := rfl
@[simp] theorem setIndex_buf (v : BitVec 10) (s : State) : (setIndex v s).buf = s.buf := rfl
@[simp] theorem setIndex_lastop (v : BitVec 10) (s : State) : (setIndex v s).lastop = s.lastop := rfl
@[simp] theorem setIndex_busy (v : BitVec 10) (s : State) : (setIndex v s).busy = s.busy := rfl
@[simp] theorem setIndex_done (v : BitVec 10) (s : State) : (setIndex v s).done = s.done := rfl
@[simp] theorem setIndex_fail (v : BitVec 10) (s : State) : (setIndex v s).fail = s.fail := rfl
@[simp] theorem setIndex_sel (v : BitVec 10) (s : State) : (setIndex v s).sel = s.sel := rfl
@[simp] theorem setIndex_clkfast (v : BitVec 10) (s : State) : (setIndex v s).clkfast = s.clkfast := rfl
@[simp] theorem setIndex_err (v : BitVec 10) (s : State) : (setIndex v s).err = s.err := rfl
@[simp] theorem setIndex_resp (v : BitVec 10) (s : State) : (setIndex v s).resp = s.resp := rfl
@[simp] theorem setIndex_dresp (v : BitVec 10) (s : State) : (setIndex v s).dresp = s.dresp := rfl
@[simp] theorem setIndex_session (v : BitVec 10) (s : State) : (setIndex v s).session = s.session := rfl
@[simp] theorem setIndex_att (v : BitVec 10) (s : State) : (setIndex v s).att = s.att := rfl
@[simp] theorem setIndex_arg (v : BitVec 10) (s : State) : (setIndex v s).arg = s.arg := rfl
@[simp] theorem setIndex_offs (v : BitVec 10) (s : State) : (setIndex v s).offs = s.offs := rfl
@[simp] theorem setIndex_cnt (v : BitVec 10) (s : State) : (setIndex v s).cnt = s.cnt := rfl
@[simp] theorem setIndex_seq (v : BitVec 10) (s : State) : (setIndex v s).seq = { s.seq with i := v } := rfl
@[simp] theorem setIndex_trace (v : BitVec 10) (s : State) : (setIndex v s).trace = s.trace := rfl
@[simp] theorem setIndex_agenda (v : BitVec 10) (s : State) : (setIndex v s).agenda = s.agenda := rfl
@[simp] theorem setIndex_card (v : BitVec 10) (s : State) : (setIndex v s).card = s.card := rfl
@[simp] theorem setIndex_reads (v : BitVec 10) (s : State) : (setIndex v s).reads = s.reads := rfl
@[simp] theorem setIndex_draws (v : BitVec 10) (s : State) : (setIndex v s).draws = s.draws := rfl

/-! ### succeed -/

@[simp] theorem succeed_cfg (s : State) : (succeed s).cfg = s.cfg := rfl
@[simp] theorem succeed_buf (s : State) : (succeed s).buf = s.buf := rfl
@[simp] theorem succeed_lastop (s : State) : (succeed s).lastop = s.lastop := rfl
@[simp] theorem succeed_busy (s : State) : (succeed s).busy = false := rfl
@[simp] theorem succeed_done (s : State) : (succeed s).done = true := rfl
@[simp] theorem succeed_fail (s : State) : (succeed s).fail = false := rfl
@[simp] theorem succeed_sel (s : State) : (succeed s).sel = s.sel := rfl
@[simp] theorem succeed_clkfast (s : State) : (succeed s).clkfast = s.clkfast := rfl
@[simp] theorem succeed_err (s : State) : (succeed s).err = .none := rfl
@[simp] theorem succeed_resp (s : State) : (succeed s).resp = s.resp := rfl
@[simp] theorem succeed_dresp (s : State) : (succeed s).dresp = s.dresp := rfl
@[simp] theorem succeed_session (s : State) : (succeed s).session = s.session := rfl
@[simp] theorem succeed_att (s : State) : (succeed s).att = s.att := rfl
@[simp] theorem succeed_arg (s : State) : (succeed s).arg = s.arg := rfl
@[simp] theorem succeed_offs (s : State) : (succeed s).offs = s.offs := rfl
@[simp] theorem succeed_cnt (s : State) : (succeed s).cnt = s.cnt := rfl
@[simp] theorem succeed_seq (s : State) : (succeed s).seq = Sequencer.reset := rfl
@[simp] theorem succeed_trace (s : State) : (succeed s).trace = s.trace := rfl
@[simp] theorem succeed_agenda (s : State) : (succeed s).agenda = s.agenda := rfl
@[simp] theorem succeed_card (s : State) : (succeed s).card = s.card := rfl
@[simp] theorem succeed_reads (s : State) : (succeed s).reads = s.reads := rfl
@[simp] theorem succeed_draws (s : State) : (succeed s).draws = s.draws := rfl

/-! ### failWith -/

@[simp] theorem failWith_cfg (code : ErrCode) (s : State) : (failWith code s).cfg = s.cfg := rfl
@[simp] theorem failWith_buf (code : ErrCode) (s : State) : (failWith code s).buf = s.buf := rfl
@[simp] theorem failWith_lastop (code : ErrCode) (s : State) : (failWith code s).lastop = s.lastop := rfl
@[simp] theorem failWith_busy (code : ErrCode) (s : State) : (failWith code s).busy = false := rfl
@[simp] theorem failWith_done (code : ErrCode) (s : State) : (failWith code s).done = true := rfl
@[simp] theorem failWith_fail (code : ErrCode) (s : State) : (failWith code s).fail = true := rfl
@[simp] theorem failWith_sel (code : ErrCode) (s : State) : (failWith code s).sel = false := rfl
@[simp] theorem failWith_clkfast (code : ErrCode) (s : State) : (failWith code s).clkfast = s.clkfast := rfl
@[simp] theorem failWith_err (code : ErrCode) (s : State) : (failWith code s).err = code := rfl
@[simp] theorem failWith_resp (code : ErrCode) (s : State) : (failWith code s).resp = s.resp := rfl
@[simp] theorem failWith_dresp (code : ErrCode) (s : State) : (failWith code s).dresp = s.dresp := rfl
@[simp] theorem failWith_session (code : ErrCode) (s : State) : (failWith code s).session = s.session := rfl
@[simp] theorem failWith_att (code : ErrCode) (s : State) : (failWith code s).att = s.att := rfl
@[simp] theorem failWith_arg (code : ErrCode) (s : State) : (failWith code s).arg = s.arg := rfl
@[simp] theorem failWith_offs (code : ErrCode) (s : State) : (failWith code s).offs = s.offs := rfl
@[simp] theorem failWith_cnt (code : ErrCode) (s : State) : (failWith code s).cnt = s.cnt := rfl
@[simp] theorem failWith_seq (code : ErrCode) (s : State) : (failWith code s).seq = Sequencer.reset := rfl
@[simp] theorem failWith_trace (code : ErrCode) (s : State) : (failWith code s).trace = (if s.sel then s.trace ++ [.desel] else s.trace) := rfl
@[simp] theorem failWith_agenda (code : ErrCode) (s : State) : (failWith code s).agenda = s.agenda := rfl
@[simp] theorem failWith_card (code : ErrCode) (s : State) : (failWith code s).card = s.card := rfl
@[simp] theorem failWith_reads (code : ErrCode) (s : State) : (failWith code s).reads = s.reads := rfl
@[simp] theorem failWith_draws (code : ErrCode) (s : State) : (failWith code s).draws = s.draws := rfl

/-! ### takeUp -/

@[simp] theorem takeUp_cfg (v : Byte) (s : State) : (takeUp v s).cfg = s.cfg := rfl
@[simp] theorem takeUp_buf (v : Byte) (s : State) : (takeUp v s).buf = s.buf := rfl
@[simp] theorem takeUp_lastop (v : Byte) (s : State) : (takeUp v s).lastop = v &&& 0x77#8 := rfl
@[simp] theorem takeUp_busy (v : Byte) (s : State) : (takeUp v s).busy = s.busy := rfl
@[simp] theorem takeUp_done (v : Byte) (s : State) : (takeUp v s).done = false := rfl
@[simp] theorem takeUp_fail (v : Byte) (s : State) : (takeUp v s).fail = false := rfl
@[simp] theorem takeUp_sel (v : Byte) (s : State) : (takeUp v s).sel = s.sel := rfl
@[simp] theorem takeUp_clkfast (v : Byte) (s : State) : (takeUp v s).clkfast = s.clkfast := rfl
@[simp] theorem takeUp_err (v : Byte) (s : State) : (takeUp v s).err = .none := rfl
@[simp] theorem takeUp_resp (v : Byte) (s : State) : (takeUp v s).resp = s.resp := rfl
@[simp] theorem takeUp_dresp (v : Byte) (s : State) : (takeUp v s).dresp = s.dresp := rfl
@[simp] theorem takeUp_session (v : Byte) (s : State) : (takeUp v s).session = s.session := rfl
@[simp] theorem takeUp_att (v : Byte) (s : State) : (takeUp v s).att = s.att := rfl
@[simp] theorem takeUp_arg (v : Byte) (s : State) : (takeUp v s).arg = s.arg := rfl
@[simp] theorem takeUp_offs (v : Byte) (s : State) : (takeUp v s).offs = s.offs := rfl
@[simp] theorem takeUp_cnt (v : Byte) (s : State) : (takeUp v s).cnt = s.cnt := rfl
@[simp] theorem takeUp_seq (v : Byte) (s : State) : (takeUp v s).seq = s.seq := rfl
@[simp] theorem takeUp_trace (v : Byte) (s : State) : (takeUp v s).trace = s.trace := rfl
@[simp] theorem takeUp_agenda (v : Byte) (s : State) : (takeUp v s).agenda = s.agenda := rfl
@[simp] theorem takeUp_card (v : Byte) (s : State) : (takeUp v s).card = s.card := rfl
@[simp] theorem takeUp_reads (v : Byte) (s : State) : (takeUp v s).reads = s.reads := rfl
@[simp] theorem takeUp_draws (v : Byte) (s : State) : (takeUp v s).draws = s.draws := rfl

/-! ### accept -/

@[simp] theorem accept_cfg (op : Op) (s : State) : (accept op s).cfg = s.cfg := rfl
@[simp] theorem accept_buf (op : Op) (s : State) : (accept op s).buf = s.buf := rfl
@[simp] theorem accept_lastop (op : Op) (s : State) : (accept op s).lastop = s.lastop := rfl
@[simp] theorem accept_busy (op : Op) (s : State) : (accept op s).busy = true := rfl
@[simp] theorem accept_done (op : Op) (s : State) : (accept op s).done = s.done := rfl
@[simp] theorem accept_fail (op : Op) (s : State) : (accept op s).fail = s.fail := rfl
@[simp] theorem accept_sel (op : Op) (s : State) : (accept op s).sel = s.sel := rfl
@[simp] theorem accept_clkfast (op : Op) (s : State) : (accept op s).clkfast = s.clkfast := rfl
@[simp] theorem accept_err (op : Op) (s : State) : (accept op s).err = s.err := rfl
@[simp] theorem accept_resp (op : Op) (s : State) : (accept op s).resp = s.resp := rfl
@[simp] theorem accept_dresp (op : Op) (s : State) : (accept op s).dresp = s.dresp := rfl
@[simp] theorem accept_session (op : Op) (s : State) : (accept op s).session = s.session := rfl
@[simp] theorem accept_att (op : Op) (s : State) : (accept op s).att = s.att := rfl
@[simp] theorem accept_arg (op : Op) (s : State) : (accept op s).arg = s.arg := rfl
@[simp] theorem accept_offs (op : Op) (s : State) : (accept op s).offs = s.offs := rfl
@[simp] theorem accept_cnt (op : Op) (s : State) : (accept op s).cnt = s.cnt := rfl
@[simp] theorem accept_seq (op : Op) (s : State) : (accept op s).seq = { s.seq with pos := .start op } := rfl
@[simp] theorem accept_trace (op : Op) (s : State) : (accept op s).trace = s.trace := rfl
@[simp] theorem accept_agenda (op : Op) (s : State) : (accept op s).agenda = s.agenda := rfl
@[simp] theorem accept_card (op : Op) (s : State) : (accept op s).card = s.card := rfl
@[simp] theorem accept_reads (op : Op) (s : State) : (accept op s).reads = s.reads := rfl
@[simp] theorem accept_draws (op : Op) (s : State) : (accept op s).draws = s.draws := rfl

/-! ### storeBuf -/

@[simp] theorem storeBuf_cfg (i : Nat) (v : Byte) (s : State) : (storeBuf i v s).cfg = s.cfg := rfl
@[simp] theorem storeBuf_buf (i : Nat) (v : Byte) (s : State) : (storeBuf i v s).buf = Memory.write s.buf i v := rfl
@[simp] theorem storeBuf_lastop (i : Nat) (v : Byte) (s : State) : (storeBuf i v s).lastop = s.lastop := rfl
@[simp] theorem storeBuf_busy (i : Nat) (v : Byte) (s : State) : (storeBuf i v s).busy = s.busy := rfl
@[simp] theorem storeBuf_done (i : Nat) (v : Byte) (s : State) : (storeBuf i v s).done = s.done := rfl
@[simp] theorem storeBuf_fail (i : Nat) (v : Byte) (s : State) : (storeBuf i v s).fail = s.fail := rfl
@[simp] theorem storeBuf_sel (i : Nat) (v : Byte) (s : State) : (storeBuf i v s).sel = s.sel := rfl
@[simp] theorem storeBuf_clkfast (i : Nat) (v : Byte) (s : State) : (storeBuf i v s).clkfast = s.clkfast := rfl
@[simp] theorem storeBuf_err (i : Nat) (v : Byte) (s : State) : (storeBuf i v s).err = s.err := rfl
@[simp] theorem storeBuf_resp (i : Nat) (v : Byte) (s : State) : (storeBuf i v s).resp = s.resp := rfl
@[simp] theorem storeBuf_dresp (i : Nat) (v : Byte) (s : State) : (storeBuf i v s).dresp = s.dresp := rfl
@[simp] theorem storeBuf_session (i : Nat) (v : Byte) (s : State) : (storeBuf i v s).session = s.session := rfl
@[simp] theorem storeBuf_att (i : Nat) (v : Byte) (s : State) : (storeBuf i v s).att = s.att := rfl
@[simp] theorem storeBuf_arg (i : Nat) (v : Byte) (s : State) : (storeBuf i v s).arg = s.arg := rfl
@[simp] theorem storeBuf_offs (i : Nat) (v : Byte) (s : State) : (storeBuf i v s).offs = s.offs := rfl
@[simp] theorem storeBuf_cnt (i : Nat) (v : Byte) (s : State) : (storeBuf i v s).cnt = s.cnt := rfl
@[simp] theorem storeBuf_seq (i : Nat) (v : Byte) (s : State) : (storeBuf i v s).seq = s.seq := rfl
@[simp] theorem storeBuf_trace (i : Nat) (v : Byte) (s : State) : (storeBuf i v s).trace = s.trace := rfl
@[simp] theorem storeBuf_agenda (i : Nat) (v : Byte) (s : State) : (storeBuf i v s).agenda = s.agenda := rfl
@[simp] theorem storeBuf_card (i : Nat) (v : Byte) (s : State) : (storeBuf i v s).card = s.card := rfl
@[simp] theorem storeBuf_reads (i : Nat) (v : Byte) (s : State) : (storeBuf i v s).reads = s.reads := rfl
@[simp] theorem storeBuf_draws (i : Nat) (v : Byte) (s : State) : (storeBuf i v s).draws = s.draws := rfl

/-! ### latchDataResponse -/

@[simp] theorem latchDataResponse_cfg (d : Byte) (s : State) : (latchDataResponse d s).cfg = s.cfg := rfl
@[simp] theorem latchDataResponse_buf (d : Byte) (s : State) : (latchDataResponse d s).buf = s.buf := rfl
@[simp] theorem latchDataResponse_lastop (d : Byte) (s : State) : (latchDataResponse d s).lastop = s.lastop := rfl
@[simp] theorem latchDataResponse_busy (d : Byte) (s : State) : (latchDataResponse d s).busy = s.busy := rfl
@[simp] theorem latchDataResponse_done (d : Byte) (s : State) : (latchDataResponse d s).done = s.done := rfl
@[simp] theorem latchDataResponse_fail (d : Byte) (s : State) : (latchDataResponse d s).fail = s.fail := rfl
@[simp] theorem latchDataResponse_sel (d : Byte) (s : State) : (latchDataResponse d s).sel = s.sel := rfl
@[simp] theorem latchDataResponse_clkfast (d : Byte) (s : State) : (latchDataResponse d s).clkfast = s.clkfast := rfl
@[simp] theorem latchDataResponse_err (d : Byte) (s : State) : (latchDataResponse d s).err = s.err := rfl
@[simp] theorem latchDataResponse_resp (d : Byte) (s : State) : (latchDataResponse d s).resp = s.resp := rfl
@[simp] theorem latchDataResponse_dresp (d : Byte) (s : State) : (latchDataResponse d s).dresp = d := rfl
@[simp] theorem latchDataResponse_session (d : Byte) (s : State) : (latchDataResponse d s).session = s.session := rfl
@[simp] theorem latchDataResponse_att (d : Byte) (s : State) : (latchDataResponse d s).att = s.att := rfl
@[simp] theorem latchDataResponse_arg (d : Byte) (s : State) : (latchDataResponse d s).arg = s.arg := rfl
@[simp] theorem latchDataResponse_offs (d : Byte) (s : State) : (latchDataResponse d s).offs = s.offs := rfl
@[simp] theorem latchDataResponse_cnt (d : Byte) (s : State) : (latchDataResponse d s).cnt = s.cnt := rfl
@[simp] theorem latchDataResponse_seq (d : Byte) (s : State) : (latchDataResponse d s).seq = { s.seq with n := s.seq.n + 1#16 } := rfl
@[simp] theorem latchDataResponse_trace (d : Byte) (s : State) : (latchDataResponse d s).trace = s.trace := rfl
@[simp] theorem latchDataResponse_agenda (d : Byte) (s : State) : (latchDataResponse d s).agenda = s.agenda := rfl
@[simp] theorem latchDataResponse_card (d : Byte) (s : State) : (latchDataResponse d s).card = s.card := rfl
@[simp] theorem latchDataResponse_reads (d : Byte) (s : State) : (latchDataResponse d s).reads = s.reads := rfl
@[simp] theorem latchDataResponse_draws (d : Byte) (s : State) : (latchDataResponse d s).draws = s.draws := rfl

/-! ### hostRead -/

@[simp] theorem hostRead_cfg (a : BitVec 10) (s : State) : (hostRead a s).cfg = s.cfg := rfl
@[simp] theorem hostRead_buf (a : BitVec 10) (s : State) : (hostRead a s).buf = s.buf := rfl
@[simp] theorem hostRead_lastop (a : BitVec 10) (s : State) : (hostRead a s).lastop = s.lastop := rfl
@[simp] theorem hostRead_busy (a : BitVec 10) (s : State) : (hostRead a s).busy = s.busy := rfl
@[simp] theorem hostRead_done (a : BitVec 10) (s : State) : (hostRead a s).done = s.done := rfl
@[simp] theorem hostRead_fail (a : BitVec 10) (s : State) : (hostRead a s).fail = s.fail := rfl
@[simp] theorem hostRead_sel (a : BitVec 10) (s : State) : (hostRead a s).sel = s.sel := rfl
@[simp] theorem hostRead_clkfast (a : BitVec 10) (s : State) : (hostRead a s).clkfast = s.clkfast := rfl
@[simp] theorem hostRead_err (a : BitVec 10) (s : State) : (hostRead a s).err = s.err := rfl
@[simp] theorem hostRead_resp (a : BitVec 10) (s : State) : (hostRead a s).resp = s.resp := rfl
@[simp] theorem hostRead_dresp (a : BitVec 10) (s : State) : (hostRead a s).dresp = s.dresp := rfl
@[simp] theorem hostRead_session (a : BitVec 10) (s : State) : (hostRead a s).session = s.session := rfl
@[simp] theorem hostRead_att (a : BitVec 10) (s : State) : (hostRead a s).att = s.att := rfl
@[simp] theorem hostRead_arg (a : BitVec 10) (s : State) : (hostRead a s).arg = s.arg := rfl
@[simp] theorem hostRead_offs (a : BitVec 10) (s : State) : (hostRead a s).offs = s.offs := rfl
@[simp] theorem hostRead_cnt (a : BitVec 10) (s : State) : (hostRead a s).cnt = s.cnt := rfl
@[simp] theorem hostRead_seq (a : BitVec 10) (s : State) : (hostRead a s).seq = s.seq := rfl
@[simp] theorem hostRead_trace (a : BitVec 10) (s : State) : (hostRead a s).trace = s.trace := rfl
@[simp] theorem hostRead_agenda (a : BitVec 10) (s : State) : (hostRead a s).agenda = s.agenda := rfl
@[simp] theorem hostRead_card (a : BitVec 10) (s : State) : (hostRead a s).card = s.card := rfl
@[simp] theorem hostRead_reads (a : BitVec 10) (s : State) : (hostRead a s).reads = s.reads ++ [{ addr := a, value := hostReadValue s a }] := rfl
@[simp] theorem hostRead_draws (a : BitVec 10) (s : State) : (hostRead a s).draws = s.draws + (if hostReadDraws s a then 1 else 0) := rfl

/-! ### turnTaken -/

@[simp] theorem turnTaken_cfg (s : State) : (turnTaken s).cfg = s.cfg := rfl
@[simp] theorem turnTaken_buf (s : State) : (turnTaken s).buf = s.buf := rfl
@[simp] theorem turnTaken_lastop (s : State) : (turnTaken s).lastop = s.lastop := rfl
@[simp] theorem turnTaken_busy (s : State) : (turnTaken s).busy = s.busy := rfl
@[simp] theorem turnTaken_done (s : State) : (turnTaken s).done = s.done := rfl
@[simp] theorem turnTaken_fail (s : State) : (turnTaken s).fail = s.fail := rfl
@[simp] theorem turnTaken_sel (s : State) : (turnTaken s).sel = s.sel := rfl
@[simp] theorem turnTaken_clkfast (s : State) : (turnTaken s).clkfast = s.clkfast := rfl
@[simp] theorem turnTaken_err (s : State) : (turnTaken s).err = s.err := rfl
@[simp] theorem turnTaken_resp (s : State) : (turnTaken s).resp = s.resp := rfl
@[simp] theorem turnTaken_dresp (s : State) : (turnTaken s).dresp = s.dresp := rfl
@[simp] theorem turnTaken_session (s : State) : (turnTaken s).session = s.session := rfl
@[simp] theorem turnTaken_att (s : State) : (turnTaken s).att = s.att := rfl
@[simp] theorem turnTaken_arg (s : State) : (turnTaken s).arg = s.arg := rfl
@[simp] theorem turnTaken_offs (s : State) : (turnTaken s).offs = s.offs := rfl
@[simp] theorem turnTaken_cnt (s : State) : (turnTaken s).cnt = s.cnt := rfl
@[simp] theorem turnTaken_seq (s : State) : (turnTaken s).seq = s.seq := rfl
@[simp] theorem turnTaken_trace (s : State) : (turnTaken s).trace = s.trace := rfl
@[simp] theorem turnTaken_agenda (s : State) : (turnTaken s).agenda = s.agenda.tail := rfl
@[simp] theorem turnTaken_card (s : State) : (turnTaken s).card = s.card := rfl
@[simp] theorem turnTaken_reads (s : State) : (turnTaken s).reads = s.reads := rfl
@[simp] theorem turnTaken_draws (s : State) : (turnTaken s).draws = s.draws := rfl

/-! ### resetBlock -/

@[simp] theorem resetBlock_cfg (s : State) : (resetBlock s).cfg = s.cfg := rfl
@[simp] theorem resetBlock_buf (s : State) : (resetBlock s).buf = [] := rfl
@[simp] theorem resetBlock_lastop (s : State) : (resetBlock s).lastop = 0x00#8 := rfl
@[simp] theorem resetBlock_busy (s : State) : (resetBlock s).busy = false := rfl
@[simp] theorem resetBlock_done (s : State) : (resetBlock s).done = false := rfl
@[simp] theorem resetBlock_fail (s : State) : (resetBlock s).fail = false := rfl
@[simp] theorem resetBlock_sel (s : State) : (resetBlock s).sel = false := rfl
@[simp] theorem resetBlock_clkfast (s : State) : (resetBlock s).clkfast = false := rfl
@[simp] theorem resetBlock_err (s : State) : (resetBlock s).err = .none := rfl
@[simp] theorem resetBlock_resp (s : State) : (resetBlock s).resp = 0xFF#8 := rfl
@[simp] theorem resetBlock_dresp (s : State) : (resetBlock s).dresp = 0xFF#8 := rfl
@[simp] theorem resetBlock_session (s : State) : (resetBlock s).session = .uninitialized := rfl
@[simp] theorem resetBlock_att (s : State) : (resetBlock s).att = 0#16 := rfl
@[simp] theorem resetBlock_arg (s : State) : (resetBlock s).arg = 0#32 := rfl
@[simp] theorem resetBlock_offs (s : State) : (resetBlock s).offs = 0#10 := rfl
@[simp] theorem resetBlock_cnt (s : State) : (resetBlock s).cnt = 0#10 := rfl
@[simp] theorem resetBlock_seq (s : State) : (resetBlock s).seq = Sequencer.reset := rfl
@[simp] theorem resetBlock_trace (s : State) : (resetBlock s).trace = [] := rfl
@[simp] theorem resetBlock_agenda (s : State) : (resetBlock s).agenda = s.agenda := rfl
@[simp] theorem resetBlock_card (s : State) : (resetBlock s).card = s.card := rfl
@[simp] theorem resetBlock_reads (s : State) : (resetBlock s).reads = s.reads := rfl
@[simp] theorem resetBlock_draws (s : State) : (resetBlock s).draws = s.draws := rfl

/-! ### Memory-free reads -/

@[simp] theorem answer_cons (s : State) (b : Byte) (rest : List Byte) (tx : Byte) :
    State.answer { s with card := b :: rest } tx = b := rfl

/-- A step on a state whose next answer is known gives that answer. -/
theorem answer_of_card {s : State} {b : Byte} {rest : List Byte} (h : s.card = b :: rest) (tx : Byte) : s.answer tx = b := by
  simp [State.answer, h]

end Sys2Proof.Laws
end

