-- ==== Sys2Proof/Laws/Ops.lean ====
section
/-! SUPPORT. What each shared operation does, once: acceptance, the loops of the session, the polls and the return of SendCommand. -/

namespace Sys2Proof.Laws

open Sys2Proof.Machine

/-! ## Configuration -/

/-- A legal configuration has every bound of R6. -/
theorem legal_bounds {c : Config} (h : c.legal = true) :
    (1 ≤ c.respPollBudget ∧ c.respPollBudget ≤ 65535) ∧ (1 ≤ c.idleAttempts ∧ c.idleAttempts ≤ 65535)
      ∧ (1 ≤ c.initAttempts ∧ c.initAttempts ≤ 65535) ∧ (1 ≤ c.tokenPollBudget ∧ c.tokenPollBudget ≤ 65535)
      ∧ (1 ≤ c.wrespPollBudget ∧ c.wrespPollBudget ≤ 65535) ∧ (1 ≤ c.busyPollBudget ∧ c.busyPollBudget ≤ 65535)
      ∧ (10 ≤ c.powerupFillerBytes ∧ c.powerupFillerBytes ≤ 65535) ∧ c.idleOk ≠ 0xFF#8 := by
  simpa [Config.legal, budgetLegal, and_assoc] using h

/-- A 16-bit counter inside a budget counts one more without wrapping. -/
theorem count_toNat {n : BitVec 16} {b : Nat} (h : n.toNat < b) (hb : b ≤ 65535) : (n + 1#16).toNat = n.toNat + 1 := by
  have one : (1#16).toNat = 1 := rfl
  rw [BitVec.toNat_add, one, Nat.mod_eq_of_lt (by omega)]

/-- The byte index counts one more without wrapping. -/
theorem index_toNat {i : BitVec 10} (h : i.toNat < 511) : (i + 1#10).toNat = i.toNat + 1 := by
  have one : (1#10).toNat = 1 := rfl
  rw [BitVec.toNat_add, one, Nat.mod_eq_of_lt (by omega)]

/-! ## Acceptance (40_protocol.md R120) -/

theorem request_busy {v : Byte} {check : State → Option ErrCode} {begin : State → State} {s : State}
    (h : s.busy = true) : request v check begin s = s := by
  simp [request, h]

theorem request_refused {v : Byte} {check : State → Option ErrCode} {begin : State → State} {s : State}
    {code : ErrCode} (h : s.busy = false) (hc : check (takeUp v s) = some code) :
    request v check begin s = failWith code (takeUp v s) := by
  simp [request, h, hc]

theorem request_accepted {v : Byte} {check : State → Option ErrCode} {begin : State → State} {s : State}
    (h : s.busy = false) (hc : check (takeUp v s) = none) : request v check begin s = begin (takeUp v s) := by
  simp [request, h, hc]

/-- The OP of a request byte survives in LASTOP (R23). -/
theorem requestByte_op (ignored : BitVec 5) (op : BitVec 3) :
    (requestByte ignored op &&& 0x77#8).extractLsb' 0 3 = op := by
  revert ignored op; decide

/-- So do the OP and the CMDSEL of a SENDCMD byte. -/
theorem sendcmdByte_fields (sel : BitVec 3) (r7 r3 : BitVec 1) :
    (sendcmdByte sel r7 r3 &&& 0x77#8).extractLsb' 0 3 = 2#3 ∧ cmdsel (sendcmdByte sel r7 r3 &&& 0x77#8) = sel := by
  revert sel r7 r3; decide

/-- LASTOP never holds bits 7 and 3 (R23). -/
theorem lastop_reserved (v : Byte) : (v &&& 0x77#8) &&& 0x88#8 = 0#8 := by
  revert v; decide

/-- A failure while the card is not selected adds no bus event (R136). -/
theorem failWith_unselected {code : ErrCode} {s : State} (h : s.sel = false) :
    failWith code s = { s with busy := false, done := true, fail := true, err := code, seq := Sequencer.reset } := by
  cases s; simp_all [failWith]

/-- The trace of a failure is the one `deselectedTrace` names. -/
theorem failWith_deselectedTrace (code : ErrCode) (s : State) : (failWith code s).trace = deselectedTrace s := rfl

/-! ## SendCommand (40_protocol.md R124 to R127) -/

theorem continueFrame_more {sent : Nat} {s : State} (h : sent < 6) :
    continueFrame sent s
      = exchangeAt (.frame (sent + 1)) (frameByte (frameWord (s.cfg.cmdByte s.seq.cmd) s.seq.arg) sent) s := by
  simp [continueFrame, h]

theorem continueFrame_done {sent : Nat} {s : State} (h : ¬ sent < 6) :
    continueFrame sent s = exchangeAt .respPoll fillerByte (clearPolls s) := by
  simp [continueFrame, h]

/-- A call of SendCommand latches its parameters and sends byte 0 of the frame. -/
theorem callCommand_exchange (caller : Caller) (c : Command) (arg : BitVec 32) (s : State) :
    callCommand caller c arg s
      = exchangeAt (.frame 1) (frameByte (frameWord (s.cfg.cmdByte c) arg) 0)
          { s with seq := { s.seq with caller := caller, cmd := c, arg := arg } } := rfl

/-- A not-ready byte within the budget polls again. -/
theorem noResponse_again {s : State} (h : s.seq.n.toNat + 1 < s.cfg.respPollBudget) (hb : s.cfg.respPollBudget ≤ 65535) :
    noResponse s = exchangeAt .respPoll fillerByte (countPoll s) := by
  have hn := count_toNat (n := s.seq.n) (b := s.cfg.respPollBudget) (by omega) hb
  simp [noResponse, hn, h]

/-- The last not-ready byte returns a timeout. -/
theorem noResponse_last {s : State} (h : s.seq.n.toNat + 1 = s.cfg.respPollBudget) (hb : s.cfg.respPollBudget ≤ 65535) :
    noResponse s
      = returnCommand { s with resp := notReadyByte
                               seq := { s.seq with n := s.seq.n + 1#16, r := notReadyByte, timedout := true } } := by
  have hn := count_toNat (n := s.seq.n) (b := s.cfg.respPollBudget) (by omega) hb
  simp only [noResponse, countPoll_seq, hn, countPoll_cfg, h, lt_irrefl, if_false]
  rfl

theorem checkBlockResponse_timeout {rest : State → State} {s : State} (h : s.seq.timedout = true) :
    checkBlockResponse rest s = failWith .cmdTimeout s := by
  simp [checkBlockResponse, h]

theorem checkBlockResponse_ok {rest : State → State} {s : State} (h : s.seq.timedout = false) (hr : s.seq.r = okByte) :
    checkBlockResponse rest s = rest s := by
  simp [checkBlockResponse, h, hr]

theorem checkBlockResponse_rejected {rest : State → State} {s : State} (h : s.seq.timedout = false)
    (hr : s.seq.r ≠ okByte) : checkBlockResponse rest s = failWith .cmdRejected s := by
  simp [checkBlockResponse, h, hr]

/-! ## Session (41_session.md R152, R153) -/

theorem attemptIdle_last {s : State} (h : s.att.toNat = s.cfg.idleAttempts) :
    attemptIdle s = failWith .idleFailed { s with session := .failed } := by
  simp [attemptIdle, h]

theorem attemptIdle_next {s : State} (h : s.att.toNat ≠ s.cfg.idleAttempts) :
    attemptIdle s = callCommand .initIdle .goIdle 0#32 { s with att := s.att + 1#16 } := by
  simp [attemptIdle, h]

theorem attemptInit_last {s : State} (h : s.att.toNat = s.cfg.initAttempts) :
    attemptInit s = failWith .initFailed { s with session := .failed } := by
  simp [attemptInit, h]

theorem attemptInit_next {s : State} (h : s.att.toNat ≠ s.cfg.initAttempts) :
    attemptInit s = callCommand .initInit .initCmd 0#32 { s with att := s.att + 1#16 } := by
  simp [attemptInit, h]

/-! ## Data phases (42_block_read.md R181 to R185, 43_block_write.md R211 to R213) -/

theorem nextData_more {p : Pos} {s : State} (h : s.seq.i.toNat < 511) :
    nextData p s = exchangeAt p fillerByte (setIndex (s.seq.i + 1#10) s) := by
  simp [nextData, h]

theorem nextData_done {p : Pos} {s : State} (h : ¬ s.seq.i.toNat < 511) :
    nextData p s = exchangeAt .crcFirst fillerByte s := by
  simp [nextData, h]

/-- A byte of BUF that was written is the byte a WRITE sends, and nothing is drawn. -/
theorem sendData_written {s : State} {b : Byte} (h : Memory.read s.buf s.seq.i.toNat = some b) :
    sendData s = exchangeAt .writeData b s := by
  simp [sendData, bufByte, bufDraw, h]

/-- A byte of BUF that was never written is sent as the next free byte, which is drawn (log 5). -/
theorem sendData_unwritten {s : State} (h : Memory.read s.buf s.seq.i.toNat = none) :
    sendData s = exchangeAt .writeData (Config.freeByte s.draws) { s with draws := s.draws + 1 } := by
  simp [sendData, bufByte, bufDraw, h]

theorem pollToken_last {s : State} (h : s.seq.n.toNat = s.cfg.tokenPollBudget) :
    pollToken s = failWith .tokenTimeout s := by
  simp [pollToken, h]

theorem pollToken_again {s : State} (h : s.seq.n.toNat ≠ s.cfg.tokenPollBudget) :
    pollToken s = exchangeAt .tokenPoll fillerByte s := by
  simp [pollToken, h]

/-! ## The host (20_memory.md R65 to R69) -/

/-- A host access that completes is a one-byte read or write. -/
theorem hostAccess_next {a : HostAccess} {s t : State} (h : hostAccess a s = .next t) :
    (∃ addr, a = .read addr 1 ∧ t = hostRead addr s) ∨ ∃ addr v, a = .write addr 1 v ∧ t = hostWrite addr v s := by
  cases a with
  | read addr w =>
    unfold hostAccess at h
    split at h
    · rename_i e; cases e; exact .inl ⟨_, rfl, by simpa using h.symm⟩
    · rename_i e; cases e
    · cases h
    · cases h
  | write addr w v =>
    unfold hostAccess at h
    split at h
    · rename_i e; cases e
    · rename_i e; cases e; exact .inr ⟨_, _, rfl, by simpa using h.symm⟩
    · cases h
    · cases h

/-- What a host write leaves alone, whatever its address. -/
theorem hostWrite_keeps (a : BitVec 10) (v : Byte) (s : State) :
    hostWrite a v s = { s with buf := (hostWrite a v s).buf, arg := (hostWrite a v s).arg,
                               offs := (hostWrite a v s).offs, cnt := (hostWrite a v s).cnt } := by
  unfold hostWrite
  split
  · rfl
  · split
    · rfl
    · unfold storeRegister
      split <;> rfl

end Sys2Proof.Laws
end

