-- ==== Sys2Proof/Laws/PerInstr.lean ====
section
/-! SUPPORT. Statements for all instructions, made per instruction: the number of bytes of every row's encoding. -/

namespace Sys2Proof.Laws.EncodeLength

/-- A request and a received byte are one byte, a frame is six, under every configuration (30_encoding.md R80). -/
def Statement (i : Instr) : Prop :=
  ∀ cfg : Config, (encode cfg i).length =
    match i.space with
    | .request => 1
    | .frame => 6
    | .received _ => 1

theorem nop (ignored : BitVec 5) : Statement (.nop ignored) := fun _ => rfl
theorem init (ignored : BitVec 5) : Statement (.init ignored) := fun _ => rfl
theorem sendcmd (sel : BitVec 3) (r7 r3 : BitVec 1) : Statement (.sendcmd sel r7 r3) := fun _ => rfl
theorem sendcmdBadsel (sel : BitVec 3) (r7 r3 : BitVec 1) : Statement (.sendcmdBadsel sel r7 r3) := fun _ => rfl
theorem read (ignored : BitVec 5) : Statement (.read ignored) := fun _ => rfl
theorem rdpart (ignored : BitVec 5) : Statement (.rdpart ignored) := fun _ => rfl
theorem write (ignored : BitVec 5) : Statement (.write ignored) := fun _ => rfl
theorem reserved6 (ignored : BitVec 5) : Statement (.reserved6 ignored) := fun _ => rfl
theorem reserved7 (ignored : BitVec 5) : Statement (.reserved7 ignored) := fun _ => rfl
theorem goIdle (arg : BitVec 32) : Statement (.goIdle arg) := fun _ => rfl
theorem initCmd (arg : BitVec 32) : Statement (.initCmd arg) := fun _ => rfl
theorem appCmd (arg : BitVec 32) : Statement (.appCmd arg) := fun _ => rfl
theorem sdSendOpCond (arg : BitVec 32) : Statement (.sdSendOpCond arg) := fun _ => rfl
theorem readSingle (arg : BitVec 32) : Statement (.readSingle arg) := fun _ => rfl
theorem writeSingle (arg : BitVec 32) : Statement (.writeSingle arg) := fun _ => rfl
theorem respNotReady : Statement .respNotReady := fun _ => rfl
theorem respOk : Statement .respOk := fun _ => rfl
theorem respIdleOk : Statement .respIdleOk := fun _ => rfl
theorem respError (x : Byte) : Statement (.respError x) := fun _ => rfl
theorem dataToken : Statement .dataToken := fun _ => rfl
theorem drespAccepted (hi : BitVec 4) : Statement (.drespAccepted hi) := fun _ => rfl
theorem drespCrcRejected (hi : BitVec 4) : Statement (.drespCrcRejected hi) := fun _ => rfl
theorem drespWriteError (hi : BitVec 4) : Statement (.drespWriteError hi) := fun _ => rfl
theorem busy : Statement .busy := fun _ => rfl

end Sys2Proof.Laws.EncodeLength
end

