-- ==== Sys2Proof/Laws/Step.lean ====
section
/-! SUPPORT. The step, once per turn and once per position of the sequencer: what later proofs cite instead of unfolding the fetch. -/

namespace Sys2Proof.Laws

open Sys2Proof.Machine

/-- A step that answers a next state has a legal configuration. -/
theorem legal_of_step {s t : State} (h : step s = .next t) : s.cfg.legal = true := by
  by_contra l
  rw [step, if_neg l] at h
  cases h

/-! ## By turn -/

theorem step_sequencer {s : State} (l : s.cfg.legal = true) (h : nextTurn s = .sequencer) :
    step s = match sequencerWork s with
      | .instr i => exec i (turnTaken s)
      | .chore c => perform c (turnTaken s) := by
  have e : fetch s = (sequencerWork s, turnTaken s) := by
    cases s with | mk _ _ _ _ _ _ _ _ _ _ _ _ _ _ _ _ _ _ agenda =>
    cases agenda with
    | nil => rfl
    | cons turn rest =>
      cases turn <;> first | rfl | (simp [nextTurn] at h)
  rw [step, if_pos l, e]
  cases sequencerWork s <;> rfl

theorem step_host {s : State} {a : HostAccess} (l : s.cfg.legal = true) (h : nextTurn s = .host a) :
    step s = match hostWork a with
      | .instr i => exec i (turnTaken s)
      | .chore c => perform c (turnTaken s) := by
  have e : fetch s = (hostWork a, turnTaken s) := by
    cases s with | mk _ _ _ _ _ _ _ _ _ _ _ _ _ _ _ _ _ _ agenda =>
    cases agenda with
    | nil => cases h
    | cons turn rest => cases h; rfl
  rw [step, if_pos l, e]
  cases hostWork a <;> rfl

theorem step_wait {s : State} (l : s.cfg.legal = true) (h : nextTurn s = .wait) :
    step s = .next (hostWait (turnTaken s)) := by
  have e : fetch s = (.chore .wait, turnTaken s) := by
    cases s with | mk _ _ _ _ _ _ _ _ _ _ _ _ _ _ _ _ _ _ agenda =>
    cases agenda with
    | nil => cases h
    | cons turn rest => cases h; rfl
  rw [step, if_pos l, e]
  rfl

theorem step_reset {s : State} (l : s.cfg.legal = true) (h : nextTurn s = .reset) :
    step s = .next (resetBlock (turnTaken s)) := by
  have e : fetch s = (.chore .reset, turnTaken s) := by
    cases s with | mk _ _ _ _ _ _ _ _ _ _ _ _ _ _ _ _ _ _ agenda =>
    cases agenda with
    | nil => cases h
    | cons turn rest => cases h; rfl
  rw [step, if_pos l, e]
  rfl

/-- A host write of OPREQ runs its request; any other one-byte access is performed. -/
theorem hostWork_request (v : Byte) : hostWork (.write 0x200#10 1 v) = .instr (decodeRequest v) := rfl

theorem hostWork_write {a : BitVec 10} (v : Byte) (h : a ≠ 0x200#10) :
    hostWork (.write a 1 v) = .chore (.access (.write a 1 v)) := by
  simp [hostWork, h]

/-! ## By position -/

/-- At a position without a site, other than the start of a frame, the statements of the operation run. -/
theorem step_statements {s : State} (l : s.cfg.legal = true) (h : nextTurn s = .sequencer) (c : coherent s = true)
    (hs : siteOf s.seq.pos = none) (hf : s.seq.pos ≠ .frame 0) : step s = .next (advance (turnTaken s)) := by
  rw [step_sequencer l h]
  simp [sequencerWork, c, hs, hf, perform]

theorem step_idle {s : State} (l : s.cfg.legal = true) (h : nextTurn s = .sequencer) (c : coherent s = true)
    (hp : s.seq.pos = .idle) : step s = .next (turnTaken s) := by
  rw [step_statements l h c (by simp [hp, siteOf]) (by simp [hp])]
  simp [advance, hp]

theorem step_start {s : State} {op : Op} (l : s.cfg.legal = true) (h : nextTurn s = .sequencer) (c : coherent s = true)
    (hp : s.seq.pos = .start op) : step s = .next (beginOperation op (turnTaken s)) := by
  rw [step_statements l h c (by simp [hp, siteOf]) (by simp [hp])]
  simp [advance, hp]

theorem step_filler {s : State} (l : s.cfg.legal = true) (h : nextTurn s = .sequencer) (c : coherent s = true)
    (hp : s.seq.pos = .filler) : step s = .next (continueFiller (turnTaken s)) := by
  rw [step_statements l h c (by simp [hp, siteOf]) (by simp [hp])]
  simp [advance, hp]

/-- The frame's row is its first exchange, so every exchange of a frame is `continueFrame`. -/
theorem step_frame {s : State} {sent : Nat} (l : s.cfg.legal = true) (h : nextTurn s = .sequencer)
    (c : coherent s = true) (hp : s.seq.pos = .frame sent) : step s = .next (continueFrame sent (turnTaken s)) := by
  by_cases h0 : sent = 0
  · subst h0
    rw [step_sequencer l h]
    simp only [sequencerWork, c, hp, siteOf, if_true]
    cases hc : s.seq.cmd <;>
      simp [frameInstr, exec, execGoIdle, execInitCmd, execAppCmd, execSdSendOpCond, execReadSingle, execWriteSingle,
        beginFrame, continueFrame, exchangeAt, turnTaken, hc, State.answer]
  · rw [step_statements l h c (by simp [hp, siteOf]) (by simp [hp, h0])]
    simp [advance, hp]

theorem step_respPoll_notReady {s : State} (l : s.cfg.legal = true) (h : nextTurn s = .sequencer)
    (c : coherent s = true) (hp : s.seq.pos = .respPoll) (hx : s.seq.rx = notReadyByte) :
    step s = .next (noResponse (turnTaken s)) := by
  rw [step_sequencer l h]
  simp [sequencerWork, c, hp, siteOf, decodeReceived, decodeResponse, hx, exec, execRespNotReady]

theorem step_respPoll_response {s : State} (l : s.cfg.legal = true) (h : nextTurn s = .sequencer)
    (c : coherent s = true) (hp : s.seq.pos = .respPoll) (hx : s.seq.rx ≠ notReadyByte) :
    step s = .next (gotResponse s.seq.rx (turnTaken s)) := by
  rw [step_sequencer l h]
  simp only [sequencerWork, c, hp, siteOf, decodeReceived, decodeResponse, hx, if_true, if_false]
  by_cases h0 : s.seq.rx = okByte
  · simp [h0, exec, execRespOk]
  · by_cases hi : s.seq.rx = s.cfg.idleOk
    · rw [if_neg h0, if_pos hi, hi]; rfl
    · rw [if_neg h0, if_neg hi]; rfl

theorem step_respDummy {s : State} (l : s.cfg.legal = true) (h : nextTurn s = .sequencer) (c : coherent s = true)
    (hp : s.seq.pos = .respDummy) : step s = .next (returnCommand (turnTaken s)) := by
  rw [step_statements l h c (by simp [hp, siteOf]) (by simp [hp])]
  simp [advance, hp]

theorem step_tokenPoll_token {s : State} (l : s.cfg.legal = true) (h : nextTurn s = .sequencer)
    (c : coherent s = true) (hp : s.seq.pos = .tokenPoll) (hx : s.seq.rx = dataStartToken) :
    step s = .next (tokenMatched (turnTaken s)) := by
  rw [step_sequencer l h]
  simp [sequencerWork, c, hp, siteOf, decodeReceived, decodeToken, hx, exec, execDataToken]

theorem step_tokenPoll_notReady {s : State} (l : s.cfg.legal = true) (h : nextTurn s = .sequencer)
    (c : coherent s = true) (hp : s.seq.pos = .tokenPoll) (hx : s.seq.rx = notReadyByte) :
    step s = .next (tokenNotReady (turnTaken s)) := by
  rw [step_sequencer l h]
  simp [sequencerWork, c, hp, siteOf, decodeReceived, decodeToken, hx, perform, receiveUnlisted,
    show ¬ notReadyByte = dataStartToken by decide]

theorem step_tokenPoll_other {s : State} (l : s.cfg.legal = true) (h : nextTurn s = .sequencer)
    (c : coherent s = true) (hp : s.seq.pos = .tokenPoll) (hx : s.seq.rx ≠ dataStartToken)
    (hn : s.seq.rx ≠ notReadyByte) : step s = .next (tokenOther (turnTaken s)) := by
  rw [step_sequencer l h]
  simp [sequencerWork, c, hp, siteOf, decodeReceived, decodeToken, hx, hn, perform, receiveUnlisted]

theorem step_readData {s : State} (l : s.cfg.legal = true) (h : nextTurn s = .sequencer) (c : coherent s = true)
    (hp : s.seq.pos = .readData) : step s = .next (storeReadData (turnTaken s)) := by
  rw [step_statements l h c (by simp [hp, siteOf]) (by simp [hp])]
  simp [advance, hp]

theorem step_partData {s : State} (l : s.cfg.legal = true) (h : nextTurn s = .sequencer) (c : coherent s = true)
    (hp : s.seq.pos = .partData) : step s = .next (storePartData (turnTaken s)) := by
  rw [step_statements l h c (by simp [hp, siteOf]) (by simp [hp])]
  simp [advance, hp]

theorem step_crcFirst {s : State} (l : s.cfg.legal = true) (h : nextTurn s = .sequencer) (c : coherent s = true)
    (hp : s.seq.pos = .crcFirst) : step s = .next (exchangeAt .crcSecond fillerByte (turnTaken s)) := by
  rw [step_statements l h c (by simp [hp, siteOf]) (by simp [hp])]
  simp [advance, hp]

theorem step_crcSecond {s : State} (l : s.cfg.legal = true) (h : nextTurn s = .sequencer) (c : coherent s = true)
    (hp : s.seq.pos = .crcSecond) : step s = .next (exchangeAt .trailer fillerByte (turnTaken s)) := by
  rw [step_statements l h c (by simp [hp, siteOf]) (by simp [hp])]
  simp [advance, hp]

theorem step_trailer {s : State} (l : s.cfg.legal = true) (h : nextTurn s = .sequencer) (c : coherent s = true)
    (hp : s.seq.pos = .trailer) : step s = .next (succeed (deselect (turnTaken s))) := by
  rw [step_statements l h c (by simp [hp, siteOf]) (by simp [hp])]
  simp [advance, hp]

theorem step_writeDummy {s : State} (l : s.cfg.legal = true) (h : nextTurn s = .sequencer) (c : coherent s = true)
    (hp : s.seq.pos = .writeDummy) : step s = .next (exchangeAt .writeToken dataStartToken (turnTaken s)) := by
  rw [step_statements l h c (by simp [hp, siteOf]) (by simp [hp])]
  simp [advance, hp]

theorem step_writeToken {s : State} (l : s.cfg.legal = true) (h : nextTurn s = .sequencer) (c : coherent s = true)
    (hp : s.seq.pos = .writeToken) : step s = .next (beginSendData (turnTaken s)) := by
  rw [step_statements l h c (by simp [hp, siteOf]) (by simp [hp])]
  simp [advance, hp]

theorem step_writeData {s : State} (l : s.cfg.legal = true) (h : nextTurn s = .sequencer) (c : coherent s = true)
    (hp : s.seq.pos = .writeData) : step s = .next (continueSendData (turnTaken s)) := by
  rw [step_statements l h c (by simp [hp, siteOf]) (by simp [hp])]
  simp [advance, hp]

/-- The four low nibbles at the data-response site (30_encoding.md R92). -/
theorem decodeDataResponse_cases (d : Byte) :
    (d.extractLsb' 0 4 = 0x5#4 ∧ decodeDataResponse d = .ok (.drespAccepted (d.extractLsb' 4 4)))
      ∨ (d.extractLsb' 0 4 = 0xB#4 ∧ decodeDataResponse d = .ok (.drespCrcRejected (d.extractLsb' 4 4)))
      ∨ (d.extractLsb' 0 4 = 0xD#4 ∧ decodeDataResponse d = .ok (.drespWriteError (d.extractLsb' 4 4)))
      ∨ (d.extractLsb' 0 4 ≠ 0x5#4 ∧ d.extractLsb' 0 4 ≠ 0xB#4 ∧ d.extractLsb' 0 4 ≠ 0xD#4
        ∧ decodeDataResponse d = .error .dataResponseNotYet) := by
  revert d; decide

/-- A byte is its nibbles. -/
theorem nibbles (d : Byte) : d.extractLsb' 4 4 ++ d.extractLsb' 0 4 = d := by
  revert d; decide

theorem step_drespPoll {s : State} {i : Instr} (l : s.cfg.legal = true) (h : nextTurn s = .sequencer)
    (c : coherent s = true) (hp : s.seq.pos = .drespPoll) (hd : decodeDataResponse s.seq.rx = .ok i) :
    step s = exec i (turnTaken s) := by
  rw [step_sequencer l h]
  simp [sequencerWork, c, hp, siteOf, decodeReceived, hd]

theorem step_drespPoll_notYet {s : State} (l : s.cfg.legal = true) (h : nextTurn s = .sequencer)
    (c : coherent s = true) (hp : s.seq.pos = .drespPoll)
    (hd : decodeDataResponse s.seq.rx = .error .dataResponseNotYet) :
    step s = .next (dataResponseNotYet (turnTaken s)) := by
  rw [step_sequencer l h]
  simp [sequencerWork, c, hp, siteOf, decodeReceived, hd, perform, receiveUnlisted]

theorem step_busyPoll_busy {s : State} (l : s.cfg.legal = true) (h : nextTurn s = .sequencer)
    (c : coherent s = true) (hp : s.seq.pos = .busyPoll) (hx : s.seq.rx = busyByte) :
    step s = .next (cardBusy (turnTaken s)) := by
  rw [step_sequencer l h]
  simp [sequencerWork, c, hp, siteOf, decodeReceived, decodeBusy, hx, exec, execBusy]

theorem step_busyPoll_ready {s : State} (l : s.cfg.legal = true) (h : nextTurn s = .sequencer)
    (c : coherent s = true) (hp : s.seq.pos = .busyPoll) (hx : s.seq.rx ≠ busyByte) :
    step s = .next (cardReady (turnTaken s)) := by
  rw [step_sequencer l h]
  simp [sequencerWork, c, hp, siteOf, decodeReceived, decodeBusy, hx, perform, receiveUnlisted]

end Sys2Proof.Laws
end

