-- ==== Sys2Proof/Tests/Slice0.lean ====
section
/-! SUPPORT. Tests of the model (expected values from the tables of spec/ and the vectors of 95_test_vectors.md, named in each comment), and
for every obligation with hypotheses a concrete state that meets them. -/

namespace Sys2Proof.Tests

open Sys2Proof.Machine

/-! ## States the tests start from -/

/-- The state a step answers meets a check. -/
def after (o : Host.Outcome State Fault Refusal) (check : State → Bool) : Bool :=
  match o with
  | .next t => check t
  | .fault _ => false
  | .refused _ => false

/-- No operation runs. -/
def resting (x : Session) : State := { State.reset with session := x, clkfast := sessionReady x }

/-- An operation runs: LASTOP, session, position, call site, and the card's next answers. -/
def running (lastop : Byte) (x : Session) (p : Pos) (c : Caller) (card : List Byte) : State :=
  { State.reset with
    lastop := lastop
    busy := true
    sel := true
    session := x
    att := 1#16
    card := card
    seq := { Sequencer.reset with pos := p, caller := c } }

/-- With the last byte received. -/
def received (x : Byte) (s : State) : State := { s with seq := { s.seq with rx := x } }

/-- With the poll counter at n. -/
def polled (n : BitVec 16) (s : State) : State := { s with seq := { s.seq with n := n } }

/-- With a response latched. -/
def responded (r : Byte) (s : State) : State := { s with resp := r, seq := { s.seq with r := r } }

/-- With these turns next. -/
def turns (l : List Turn) (s : State) : State := { s with agenda := l }

/-- With a one-byte host write of OPREQ next. -/
def requesting (v : Byte) (s : State) : State := turns [HostProgram.wr 0x200#10 v] s

/-- With a configuration. -/
def under (cfg : Config) (s : State) : State := { s with cfg := cfg }

/-- RESP_POLL_BUDGET 1, as in vector C7. -/
def onePoll : Config := { Config.default with respPollBudget := 1 }

/-- The window of RDPART. -/
def window (offs cnt : BitVec 10) (s : State) : State := { s with offs := offs, cnt := cnt }

/-! ## Well-formedness: an ill-formed term for each check -/

theorem test_sendcmd_refuses_cmdsel_4 :
    (Instr.sendcmd 4#3 0#1 0#1).wellFormed Config.default = false ∧ (Instr.sendcmd 3#3 1#1 1#1).wellFormed Config.default = true := by
  decide

theorem test_sendcmdBadsel_refuses_cmdsel_3 :
    (Instr.sendcmdBadsel 3#3 0#1 0#1).wellFormed Config.default = false
      ∧ (Instr.sendcmdBadsel 4#3 0#1 0#1).wellFormed Config.default = true := by
  decide

theorem test_respError_refuses_rows_above :
    (Instr.respError 0xFF#8).wellFormed Config.default = false ∧ (Instr.respError 0x00#8).wellFormed Config.default = false
      ∧ (Instr.respError 0x01#8).wellFormed Config.default = false
      ∧ (Instr.respError 0x02#8).wellFormed Config.default = true := by
  decide

theorem test_respIdleOk_refuses_other_rows :
    Instr.respIdleOk.wellFormed { Config.default with idleOk := 0x00#8 } = false
      ∧ Instr.respIdleOk.wellFormed { Config.default with idleOk := 0xFF#8 } = false
      ∧ Instr.respIdleOk.wellFormed Config.default = true := by
  decide

/-! ## Decoding: words written out from the encodings of 30_encoding.md -/

/-- R81, R82: OP in bits 2:0. -/
theorem test_decode_requests :
    decodeRequest 0b11111000#8 = .nop 0b11111#5 ∧ decodeRequest 0b00000001#8 = .init 0#5
      ∧ decodeRequest 0b00001011#8 = .read 1#5 ∧ decodeRequest 0b00000100#8 = .rdpart 0#5
      ∧ decodeRequest 0b10000101#8 = .write 16#5 ∧ decodeRequest 0b00000110#8 = .reserved6 0#5
      ∧ decodeRequest 0b11110111#8 = .reserved7 30#5 := by
  decide

/-- R83: CMDSEL in bits 6:4; 0 to 3 and 4 to 7. Vectors A8, A9, A4. -/
theorem test_decode_sendcmd :
    decodeRequest 0x0A#8 = .sendcmd 0#3 0#1 1#1 ∧ decodeRequest 0x82#8 = .sendcmd 0#3 1#1 0#1
      ∧ decodeRequest 0x32#8 = .sendcmd 3#3 0#1 0#1 ∧ decodeRequest 0x42#8 = .sendcmdBadsel 4#3 0#1 0#1
      ∧ decodeRequest 0x72#8 = .sendcmdBadsel 7#3 0#1 0#1 := by
  decide

/-- The frames of vectors C1, C3 to C6, C13, C17, byte by byte in the order of sending. -/
theorem test_decode_frames :
    decodeBytes Config.default .frame [0x40, 0x12, 0x34, 0x56, 0x78, 0x95] = .ok (.goIdle 0x12345678#32)
      ∧ decodeBytes Config.default .frame [0x41, 0x00, 0x00, 0x00, 0x00, 0x95] = .ok (.initCmd 0#32)
      ∧ decodeBytes Config.default .frame [0x77, 0x00, 0x00, 0x00, 0x00, 0x95] = .ok (.appCmd 0#32)
      ∧ decodeBytes Config.default .frame [0x69, 0x00, 0x00, 0x00, 0x00, 0x95] = .ok (.sdSendOpCond 0#32)
      ∧ decodeBytes Config.default .frame [0x51, 0x02, 0x46, 0x8A, 0x00, 0x95] = .ok (.readSingle 0x02468A00#32)
      ∧ decodeBytes Config.default .frame [0x58, 0x00, 0x00, 0x20, 0x00, 0x95] = .ok (.writeSingle 0x2000#32) := by
  decide

/-- R86, R88, R80: another command byte, another trailer and another number of bytes are rejected by name. -/
theorem test_decode_rejects :
    decodeBytes Config.default .frame [0x42, 0x00, 0x00, 0x00, 0x00, 0x95] = .error .unknownCommand
      ∧ decodeBytes Config.default .frame [0x40, 0x00, 0x00, 0x00, 0x00, 0xFF] = .error .badTrailer
      ∧ decodeBytes Config.default .frame [0x40, 0x00, 0x00, 0x00, 0x95] = .error .badLength
      ∧ decodeBytes Config.default .request [] = .error .badLength := by
  decide

/-- R90: the four rows of the command response site; 0xFE is an error bitmap there (R95, vector C5). -/
theorem test_decode_responses :
    decodeResponse Config.default 0xFF#8 = .respNotReady ∧ decodeResponse Config.default 0x00#8 = .respOk
      ∧ decodeResponse Config.default 0x01#8 = .respIdleOk ∧ decodeResponse Config.default 0xFE#8 = .respError 0xFE#8 := by
  decide

/-- R91, R92, R93: the other sites (vectors R4, W1, W4, W6, W7, W11). -/
theorem test_decode_other_sites :
    decodeToken 0xFE#8 = .ok .dataToken ∧ decodeToken 0xFF#8 = .error .tokenNotReady
      ∧ decodeToken 0x08#8 = .error .tokenOther ∧ decodeDataResponse 0xE5#8 = .ok (.drespAccepted 0xE#4)
      ∧ decodeDataResponse 0x1B#8 = .ok (.drespCrcRejected 1#4) ∧ decodeDataResponse 0x0D#8 = .ok (.drespWriteError 0#4)
      ∧ decodeDataResponse 0x03#8 = .error .dataResponseNotYet ∧ decodeBusy 0x00#8 = .ok .busy
      ∧ decodeBusy 0xFF#8 = .error .cardReady := by
  decide

/-- The numbering of spec/opcode_table.json: byte 0 of a frame in bits 47:40. -/
theorem test_decodeTableWord :
    decodeTableWord 8 0x22 = some (.sendcmd 2#3 0#1 0#1) ∧ decodeTableWord 48 0x510000020095 = some (.readSingle 0x200#32)
      ∧ decodeTableWord 48 0x510000020094 = none ∧ decodeTableWord 16 0 = none := by
  decide

/-! ## Reset and the words the host places -/

/-- Vector Z1. -/
theorem test_reset_registers :
    (List.map (fun a => registerByte State.reset a) [0x200, 0x201, 0x202, 0x203, 0x204, 0x205, 0x206, 0x207, 0x208, 0x20C, 0x20F, 0x210])
      = [0x00#8, 0x00#8, 0x00#8, 0xFF#8, 0xFF#8, 0x00#8, 0x00#8, 0x00#8, 0x00#8, 0x00#8, 0x00#8, 0x00#8] := by
  decide

/-- Vector Z2: no DESEL event. -/
theorem test_reset_while_running :
    after (step (turns [.reset] (running 0x03#8 .sdCard .readData .read [])))
      (fun t => t == State.reset) = true := by
  decide

/-- Vector Z4: OFFS_HI keeps bits 1:0. -/
theorem test_offs_hi : after (step (turns [HostProgram.wr 0x20D#10 0xFF#8] State.reset)) (fun t => t.offs == 0x300#10 && registerByte t 0x20D == 0x03#8)
    = true := by
  decide

theorem test_withFetchWord_request :
    step (State.reset.withFetchWord 8 0x22) = exec (.sendcmd 2#3 0#1 0#1) State.reset := by
  rfl

theorem test_withFetchWord_frame :
    after (step (State.reset.withFetchWord 48 0x400000000095))
      (fun t => sentBytes t.trace == [0x40#8] && t.seq.pos == .frame 1 && t.seq.cmd == .goIdle) = true := by
  decide

/-- R8: each parameter out of its range is refused. -/
theorem test_illegal_configurations :
    ({ Config.default with respPollBudget := 0 } : Config).legal = false
      ∧ ({ Config.default with idleAttempts := 0 } : Config).legal = false
      ∧ ({ Config.default with initAttempts := 65536 } : Config).legal = false
      ∧ ({ Config.default with tokenPollBudget := 65536 } : Config).legal = false
      ∧ ({ Config.default with wrespPollBudget := 0 } : Config).legal = false
      ∧ ({ Config.default with busyPollBudget := 0 } : Config).legal = false
      ∧ ({ Config.default with powerupFillerBytes := 9 } : Config).legal = false
      ∧ ({ Config.default with idleOk := 0xFF#8 } : Config).legal = false ∧ Config.default.legal = true := by
  decide

/-! ## One instruction, one step -/

/-- Vector A7. -/
theorem test_nop : after (exec (.nop 14#5) { resting .sdCard with lastop := 0x01#8, done := true })
    (fun t => t == { resting .sdCard with lastop := 0x01#8, done := true }) = true := by
  decide

/-- Program P1 line 1, and vector A10. -/
theorem test_init_accepted : after (exec (.init 0#5) State.reset)
    (fun t => statusByte t == 0x01#8 && t.lastop == 0x01#8 && t.seq.pos == .start .init && t.trace == []) = true := by
  decide

theorem test_init_refused : after (exec (.init 0#5) (resting .sdCard))
    (fun t => statusByte t == 0x16#8 && errCode t.err == 0xD#8 && sessionCode t.session == 4#8) = true := by
  decide

/-- Vectors A8, A9. -/
theorem test_sendcmd_lastop : after (exec (.sendcmd 0#3 0#1 1#1) State.reset) (fun t => t.lastop == 0x02#8 && t.busy) = true
    ∧ after (exec (.sendcmd 0#3 1#1 0#1) State.reset) (fun t => t.lastop == 0x02#8 && t.busy) = true := by
  decide

/-- Vector A4. -/
theorem test_sendcmdBadsel : after (exec (.sendcmdBadsel 4#3 0#1 0#1) State.reset)
    (fun t => statusByte t == 0x06#8 && errCode t.err == 0xB#8 && t.lastop == 0x42#8 && t.trace == []) = true := by
  decide

/-- Vector A1. -/
theorem test_read_refused : after (exec (.read 0#5) State.reset)
    (fun t => statusByte t == 0x06#8 && errCode t.err == 0xC#8 && t.lastop == 0x03#8 && t.trace == []) = true := by
  decide

/-- Vector A15. -/
theorem test_read_accepted : after (exec (.read 0#5) { resting .sdCard with done := true, fail := true, err := .seqError })
    (fun t => statusByte t == 0x11#8 && errCode t.err == 0#8) = true := by
  decide

/-- Vector A3: the session check comes first. -/
theorem test_rdpart_session_first : after (exec (.rdpart 0#5) (window 300#10 300#10 State.reset)) (fun t => errCode t.err == 0xC#8)
    = true := by
  decide

/-- Vectors B7, B8. -/
theorem test_rdpart_window : after (exec (.rdpart 0#5) (window 511#10 2#10 (resting .sdCard)))
      (fun t => errCode t.err == 0xB#8 && statusByte t == 0x16#8) = true
    ∧ after (exec (.rdpart 0#5) (window 1023#10 0#10 (resting .sdCard))) (fun t => errCode t.err == 0xB#8) = true := by
  decide

/-- Vector A2, and R210: acceptance sets DRESP. -/
theorem test_write : after (exec (.write 0#5) { State.reset with dresp := 0x0B#8 })
      (fun t => statusByte t == 0x06#8 && errCode t.err == 0xC#8 && t.dresp == 0x0B#8) = true
    ∧ after (exec (.write 0#5) { resting .sdCard with dresp := 0x0B#8 }) (fun t => t.busy && t.dresp == 0xFF#8) = true := by
  decide

/-- Vector A5. -/
theorem test_reserved6 : after (exec (.reserved6 0#5) State.reset)
    (fun t => statusByte t == 0x06#8 && errCode t.err == 0xE#8 && t.lastop == 0x06#8) = true := by
  decide

/-- Vector A6. -/
theorem test_reserved7 : after (exec (.reserved7 30#5) State.reset)
    (fun t => errCode t.err == 0xE#8 && t.lastop == 0x77#8) = true := by
  decide

/-- The first exchange of the frames of vectors C1, C3, C4, C5. -/
theorem test_session_frames :
    after (exec (.goIdle 0#32) (running 0x02#8 .uninitialized (.frame 0) .sendcmd [9])) (fun t => t.trace == [.x 0x40 9]) = true
      ∧ after (exec (.initCmd 0#32) (running 0x02#8 .uninitialized (.frame 0) .sendcmd [9])) (fun t => t.trace == [.x 0x41 9]) = true
      ∧ after (exec (.appCmd 0#32) (running 0x02#8 .uninitialized (.frame 0) .sendcmd [9])) (fun t => t.trace == [.x 0x77 9]) = true
      ∧ after (exec (.sdSendOpCond 0#32) (running 0x02#8 .uninitialized (.frame 0) .sendcmd [9])) (fun t => t.trace == [.x 0x69 9])
        = true := by
  decide

/-- The first exchange of the frames of vectors C13 and C17. -/
theorem test_block_frames :
    after (exec (.readSingle 0x02468A00#32) (running 0x03#8 .sdCard (.frame 0) .read [9])) (fun t => t.trace == [.x 0x51 9]) = true
      ∧ after (exec (.writeSingle 0x2000#32) (running 0x05#8 .sdCard (.frame 0) .write [9])) (fun t => t.trace == [.x 0x58 9])
        = true := by
  decide

/-- Vectors C13, C15, C16: the argument of a block command. -/
theorem test_block_argument :
    frameBytes 0x51#8 (blockArgument 0x12345#32) = [0x51, 0x02, 0x46, 0x8A, 0x00, 0x95]
      ∧ frameBytes 0x51#8 (blockArgument 0x00800000#32) = [0x51, 0x00, 0x00, 0x00, 0x00, 0x95]
      ∧ frameBytes 0x51#8 (blockArgument 0xFFFFFFFF#32) = [0x51, 0xFF, 0xFF, 0xFE, 0x00, 0x95] := by
  decide

/-- Vector C7: the single poll returned FF; no dummy. -/
theorem test_respNotReady_timeout : after (exec .respNotReady (under onePoll (running 0x02#8 .uninitialized .respPoll .sendcmd [])))
    (fun t => statusByte t == 0x06#8 && errCode t.err == 1#8 && t.resp == 0xFF#8 && t.trace == [.desel]) = true := by
  decide

/-- Vector C1: the poll goes on. -/
theorem test_respNotReady_again : after (exec .respNotReady (running 0x02#8 .uninitialized .respPoll .sendcmd [0x01]))
    (fun t => t.busy && t.trace == [.x 0xFF 0x01] && t.seq.n == 1#16) = true := by
  decide

/-- Vector C2: RESP 00 and the dummy exchange. -/
theorem test_respOk : after (exec .respOk (running 0x02#8 .uninitialized .respPoll .sendcmd [7]))
    (fun t => t.resp == 0x00#8 && t.trace == [.x 0xFF 7] && t.seq.pos == .respDummy) = true := by
  decide

/-- Vector C1: RESP 01 and the dummy exchange. -/
theorem test_respIdleOk : after (exec .respIdleOk (running 0x02#8 .uninitialized .respPoll .sendcmd [7]))
    (fun t => t.resp == 0x01#8 && t.trace == [.x 0xFF 7]) = true := by
  decide

/-- Vector C4: RESP 7F. -/
theorem test_respError : after (exec (.respError 0x7F#8) (running 0x22#8 .uninitialized .respPoll .sendcmd [7]))
    (fun t => t.resp == 0x7F#8 && t.trace == [.x 0xFF 7]) = true := by
  decide

/-- Vector R1 and its RDPART form B1: data byte 0 follows the token. -/
theorem test_dataToken : after (exec .dataToken (running 0x03#8 .sdCard .tokenPoll .read [0xD0]))
      (fun t => t.trace == [.x 0xFF 0xD0] && t.seq.pos == .readData && t.seq.i == 0#10) = true
    ∧ after (exec .dataToken (running 0x04#8 .sdCard .tokenPoll .rdpart [0xD0])) (fun t => t.seq.pos == .partData) = true := by
  decide

/-- Vector W3: low nibble 5; the first busy poll follows. -/
theorem test_drespAccepted : after (exec (.drespAccepted 1#4) (running 0x05#8 .sdCard .drespPoll .write [0x00]))
    (fun t => t.dresp == 0x15#8 && t.trace == [.x 0xFF 0x00] && t.seq.pos == .busyPoll && t.seq.n == 0#16) = true := by
  decide

/-- Vector W4: no filler. -/
theorem test_drespCrcRejected : after (exec (.drespCrcRejected 1#4) { running 0x05#8 .sdCard .drespPoll .write [] with clkfast := true })
    (fun t => statusByte t == 0x16#8 && errCode t.err == 5#8 && t.dresp == 0x1B#8 && t.trace == [.desel]) = true := by
  decide

/-- Vector W6. -/
theorem test_drespWriteError : after (exec (.drespWriteError 0#4) (running 0x05#8 .sdCard .drespPoll .write []))
    (fun t => errCode t.err == 6#8 && t.dresp == 0x0D#8 && t.trace == [.desel]) = true := by
  decide

/-- Vectors W1 and W9. -/
theorem test_busy : after (exec .busy (running 0x05#8 .sdCard .busyPoll .write [0x00]))
      (fun t => t.busy && t.trace == [.x 0xFF 0x00] && t.seq.n == 1#16) = true
    ∧ after (exec .busy (polled 65534#16 (running 0x05#8 .sdCard .busyPoll .write [])))
      (fun t => errCode t.err == 8#8 && t.trace == [.desel]) = true := by
  decide

/-! ## Bytes without a row, and the host -/

/-- Vectors R4 and R5: 08 at the token site. -/
theorem test_token_other : after (step (received 0x08#8 (running 0x03#8 .sdCard .tokenPoll .read [0xFF])))
      (fun t => t.busy && t.trace == [.x 0xFF 0xFF]) = true
    ∧ after (step (under { Config.default with tokenMatchMode := .firstNonFf } (received 0x08#8 (running 0x03#8 .sdCard .tokenPoll .read []))))
      (fun t => errCode t.err == 4#8 && t.trace == [.desel]) = true := by
  decide

/-- Vector W11: FF is ready at the busy site; one filler byte. Vector W7: 03 is ignored. -/
theorem test_write_polls : after (step (received 0xFF#8 (running 0x05#8 .sdCard .busyPoll .write [7])))
      (fun t => t.trace == [.x 0xFF 7] && t.seq.pos == .trailer) = true
    ∧ after (step (received 0x03#8 (running 0x05#8 .sdCard .drespPoll .write [0x05])))
      (fun t => t.trace == [.x 0xFF 0x05] && t.seq.pos == .drespPoll && t.dresp == 0x03#8) = true := by
  decide

/-- Vector B1, data byte 511 of a window at 510: BUF[1] takes it. -/
theorem test_partial_store :
    after (step (window 510#10 2#10 (received 0xFF#8
        { running 0x04#8 .sdCard .partData .rdpart [1] with
          seq := { Sequencer.reset with pos := .partData, caller := .rdpart, i := 511#10, rx := 0xFF#8 } })))
      (fun t => t.buf == [(1, 0xFF#8)] && t.seq.pos == .crcFirst) = true := by
  decide

/-- Program P1, the end: DESEL CLK(FAST), SESSION 4, STATUS 0x12. Vector I5: no CLK event. -/
theorem test_init_ends :
    after (step (responded 0x00#8 (running 0x01#8 .negotiating .respDummy .initOpCond [])))
      (fun t => t.trace == [.desel, .clk .fast] && sessionCode t.session == 4#8 && statusByte t == 0x12#8) = true
    ∧ after (step (under { Config.default with mmcFastClock := false } (responded 0x04#8 (running 0x01#8 .negotiating .respDummy .initApp []))))
      (fun t => t.trace == [.desel] && sessionCode t.session == 5#8 && statusByte t == 0x02#8) = true := by
  decide

/-- Vectors A13 and A14: a host write while BUSY = 1. -/
theorem test_busy_ignores :
    after (step (requesting 0x03#8 (running 0x01#8 .poweringUp .filler .sendcmd [])))
      (fun t => t == running 0x01#8 .poweringUp .filler .sendcmd []) = true
    ∧ after (step (turns [HostProgram.wr 0x208#10 0x07#8] (running 0x01#8 .poweringUp .filler .sendcmd [])))
      (fun t => t == running 0x01#8 .poweringUp .filler .sendcmd []) = true := by
  decide

/-- R65: a two-byte access is refused. -/
theorem test_wide_access : (match step (turns [.host (.read 0x208#10 2)] State.reset) with
    | .refused .accessWidth => true
    | _ => false) = true := by
  decide

/-! ## Witnesses: states that meet the hypotheses of the obligations -/

/-- The invariant of a concrete state, by evaluation. -/
theorem inv_of {s : State} (h : decide (Memory.wf s.buf) = true ∧ Laws.invariantHolds s = true) : BlockInv s :=
  Laws.blockInv_of_check (of_decide_eq_true h.1) h.2

theorem witness_DecodeEncodeAgree :
    (commands.map Config.default.cmdByte).Nodup ∧ (Instr.sendcmd 3#3 1#1 1#1).wellFormed Config.default = true
      ∧ (Instr.sendcmdBadsel 7#3 0#1 0#1).wellFormed Config.default = true
      ∧ (Instr.respError 0xFE#8).wellFormed Config.default = true ∧ Instr.respIdleOk.wellFormed Config.default = true := by
  decide

theorem witness_EveryRequestByteDecodes :
    (0xF8#8).extractLsb' 0 3 = 0#3 ∧ (0xF9#8).extractLsb' 0 3 = 1#3
      ∧ ((0xB2#8).extractLsb' 0 3 = 2#3 ∧ (0xB2#8).getLsbD 6 = false)
      ∧ ((0x42#8).extractLsb' 0 3 = 2#3 ∧ (0x42#8).getLsbD 6 = true)
      ∧ (0x03#8).extractLsb' 0 3 = 3#3 ∧ (0xFC#8).extractLsb' 0 3 = 4#3 ∧ (0x05#8).extractLsb' 0 3 = 5#3
      ∧ (0x06#8).extractLsb' 0 3 = 6#3 ∧ (0xFF#8).extractLsb' 0 3 = 7#3 := by
  decide

theorem witness_StepRunsRequestByte :
    (requesting 0xFF#8 State.reset).cfg.legal = true
      ∧ nextTurn (requesting 0xFF#8 State.reset) = .host (.write 0x200#10 1 0xFF#8) := by
  decide

theorem witness_StepRunsSequencerRow :
    Config.default.legal = true
      ∧ (siteOf (running 0x02#8 .uninitialized .respPoll .sendcmd []).seq.pos = some .response
        ∧ decodeReceived Config.default .response 0xFF#8 = .ok .respNotReady)
      ∧ (siteOf (running 0x03#8 .sdCard .tokenPoll .read []).seq.pos = some .token
        ∧ decodeReceived Config.default .token 0xFE#8 = .ok .dataToken)
      ∧ (siteOf (running 0x05#8 .sdCard .drespPoll .write []).seq.pos = some .dataResponse
        ∧ decodeReceived Config.default .dataResponse 0x0D#8 = .ok (.drespWriteError 0#4))
      ∧ (siteOf (running 0x05#8 .sdCard .busyPoll .write []).seq.pos = some .busy
        ∧ decodeReceived Config.default .busy 0x00#8 = .ok .busy)
      ∧ (running 0x02#8 .uninitialized (.frame 0) .sendcmd []).seq.pos = .frame 0
      ∧ nextTurn (running 0x02#8 .uninitialized (.frame 0) .sendcmd []) = .sequencer := by
  decide

theorem witness_HostAccessIsOneByte :
    Config.default.legal = true
      ∧ nextTurn (turns [.host (.read 0x3FF#10 1)] State.reset) = .host (.read 0x3FF#10 1)
      ∧ nextTurn (turns [.host (.read 0x000#10 2)] State.reset) = .host (.read 0x000#10 2)
      ∧ nextTurn (turns [.host (.write 0x200#10 1 0x01#8)] State.reset) = .host (.write 0x200#10 1 0x01#8)
      ∧ nextTurn (turns [.host (.write 0x1FF#10 0 0x01#8)] State.reset) = .host (.write 0x1FF#10 0 0x01#8) := by
  decide

theorem witness_SafeStatesNeverStop :
    Safe State.reset ∧ Safe (turns [.wait, .reset, .host (.read 0#10 1)] (running 0x03#8 .sdCard .readData .read [])) := by
  unfold Safe; decide

theorem witness_StepKeepsInvariant :
    BlockInv (running 0x02#8 .uninitialized (.frame 0) .sendcmd [1])
      ∧ after (step (running 0x02#8 .uninitialized (.frame 0) .sendcmd [1])) (fun _ => true) = true :=
  ⟨inv_of (by decide), by decide⟩

theorem witness_OneExchangePerStep :
    (after (step (running 0x02#8 .uninitialized (.frame 0) .sendcmd [1])) (fun _ => true) = true
        ∧ nextTurn (running 0x02#8 .uninitialized (.frame 0) .sendcmd [1]) ≠ .reset)
      ∧ BlockInv (requesting 0x06#8 State.reset) ∧ nextTurn (requesting 0x06#8 State.reset) ≠ .sequencer
      ∧ after (step (requesting 0x06#8 State.reset)) (fun _ => true) = true :=
  ⟨by decide, inv_of (by decide), by decide⟩

theorem witness_ResetFromAnyState :
    (turns [.reset] (running 0x03#8 .sdCard .readData .read [])).cfg.legal = true
      ∧ nextTurn (turns [.reset] (running 0x03#8 .sdCard .readData .read [])) = .reset := by
  decide

theorem witness_ExchangeTakesCardAnswer :
    (after (step (running 0x02#8 .uninitialized (.frame 0) .sendcmd [1])) (fun t => t.card == [] && t.seq.rx == 1) = true)
      ∧ after (step (running 0x02#8 .uninitialized (.frame 0) .sendcmd [])) (fun t => t.draws == 1) = true
      ∧ nextTurn (running 0x02#8 .uninitialized (.frame 0) .sendcmd []) = .sequencer := by
  decide

theorem witness_NopChangesNothing :
    (requesting 0x70#8 State.reset).cfg.legal = true ∧ (0x70#8).extractLsb' 0 3 = 0#3
      ∧ nextTurn (requesting 0x70#8 State.reset) = .host (.write 0x200#10 1 0x70#8) := by
  decide

theorem witness_BusyRequestIgnored :
    (Instr.write 0#5).space = .request ∧ (Instr.sendcmdBadsel 7#3 0#1 0#1).space = .request
      ∧ (running 0x01#8 .poweringUp .filler .sendcmd []).busy = true := by
  decide

theorem witness_InitAccepted : State.reset.busy = false ∧ State.reset.session = .uninitialized := by
  decide

theorem witness_SendcmdAccepted : (resting .failed).busy = false ∧ (0#3).toNat < 4 ∧ (3#3).toNat < 4 := by
  decide

/-- The window at its longest, and an empty one at the end of the sector. -/
theorem witness_BlockRequestsAccepted :
    (resting .sdCard).busy = false ∧ ((resting .sdCard).session = .sdCard ∨ (resting .sdCard).session = .mmcCard)
      ∧ ((resting .mmcCard).session = .sdCard ∨ (resting .mmcCard).session = .mmcCard)
      ∧ (window 510#10 2#10 (resting .sdCard)).offs.toNat + (window 510#10 2#10 (resting .sdCard)).cnt.toNat ≤ 512
      ∧ (window 512#10 0#10 (resting .sdCard)).offs.toNat + (window 512#10 0#10 (resting .sdCard)).cnt.toNat ≤ 512 := by
  decide

theorem witness_ReservedRequestsFailBadOp : BlockInv (resting .failed) ∧ (resting .failed).busy = false :=
  ⟨inv_of (by decide), by decide⟩

theorem witness_BadCmdselFailsParamError :
    BlockInv (resting .mmcCard) ∧ (resting .mmcCard).busy = false ∧ 4 ≤ (4#3).toNat ∧ 4 ≤ (7#3).toNat :=
  ⟨inv_of (by decide), by decide⟩

theorem witness_SessionGatesRequests :
    (BlockInv (resting .failed) ∧ (resting .failed).busy = false ∧ (resting .failed).session ≠ .uninitialized
        ∧ (resting .failed).session ≠ .sdCard ∧ (resting .failed).session ≠ .mmcCard)
      ∧ (BlockInv State.reset ∧ State.reset.session ≠ .sdCard ∧ State.reset.session ≠ .mmcCard)
      ∧ BlockInv (turns [.reset] (resting .sdCard)) ∧ after (step (turns [.reset] (resting .sdCard))) (fun _ => true) = true
      ∧ (turns [.reset] (resting .sdCard)).session = .sdCard :=
  ⟨⟨inv_of (by decide), by decide⟩, ⟨inv_of (by decide), by decide⟩, inv_of (by decide), by decide⟩

theorem witness_WindowTooLongFailsParamError :
    BlockInv (window 511#10 2#10 (resting .sdCard)) ∧ (window 511#10 2#10 (resting .sdCard)).busy = false
      ∧ 512 < (window 511#10 2#10 (resting .sdCard)).offs.toNat + (window 511#10 2#10 (resting .sdCard)).cnt.toNat
      ∧ 512 < (window 1023#10 1023#10 (resting .sdCard)).offs.toNat + (window 1023#10 1023#10 (resting .sdCard)).cnt.toNat :=
  ⟨inv_of (by decide), by decide⟩

theorem witness_FrameRowsSendCommandByte :
    (Instr.writeSingle 0x2000#32, Command.writeSingle) ∈ [(Instr.goIdle 0x2000#32, Command.goIdle), (.initCmd 0x2000#32, .initCmd),
      (.appCmd 0x2000#32, .appCmd), (.sdSendOpCond 0x2000#32, .sdSendOpCond), (.readSingle 0x2000#32, .readSingle),
      (.writeSingle 0x2000#32, .writeSingle)] := by
  decide

/-- Inside a frame after the byte an operation's step sends, at its end, and at a state from which SendCommand is called. -/
theorem witness_SendCommandSendsFrame :
    (running 0x02#8 .uninitialized (.frame 1) .sendcmd []).cfg.legal = true
      ∧ (running 0x02#8 .uninitialized (.frame 1) .sendcmd []).busy = true
      ∧ (running 0x02#8 .uninitialized (.frame 1) .sendcmd []).agenda = []
      ∧ (running 0x02#8 .uninitialized (.frame 1) .sendcmd []).seq.pos = .frame 1
      ∧ (running 0x02#8 .uninitialized (.frame 0) .sendcmd []).seq.pos = .frame 0
      ∧ (running 0x02#8 .uninitialized (.frame 6) .sendcmd []).seq.pos = .frame 6
      ∧ (running 0x02#8 .uninitialized (.start .sendcmd) .sendcmd []).busy = true := by
  decide

theorem witness_ResponseRowsLatchResponse :
    (Instr.respError 0x7F#8, 0x7F#8) ∈ [(Instr.respOk, 0x00#8), (.respIdleOk, State.reset.cfg.idleOk), (.respError 0x7F#8, 0x7F#8)] := by
  decide

/-- The last poll but one. -/
theorem witness_NotReadyPollsAgain :
    (polled 254#16 (running 0x02#8 .uninitialized .respPoll .sendcmd [])).cfg.legal = true
      ∧ (polled 254#16 (running 0x02#8 .uninitialized .respPoll .sendcmd [])).seq.n.toNat + 1
        < (polled 254#16 (running 0x02#8 .uninitialized .respPoll .sendcmd [])).cfg.respPollBudget := by
  decide

theorem witness_LastNotReadyTimesOut :
    (polled 255#16 (running 0x03#8 .sdCard .respPoll .read [])).cfg.legal = true
      ∧ (polled 255#16 (running 0x03#8 .sdCard .respPoll .read [])).seq.n.toNat + 1
        = (polled 255#16 (running 0x03#8 .sdCard .respPoll .read [])).cfg.respPollBudget
      ∧ (polled 255#16 (running 0x03#8 .sdCard .respPoll .read [])).seq.caller ∈ [Caller.sendcmd, .read, .rdpart, .write] := by
  decide

/-- Vector C1 (a response at poll 2), and vector C3 (no response). -/
theorem witness_SendcmdExchangeCounts :
    (BlockInv { running 0x02#8 .uninitialized (.start .sendcmd) .sendcmd [9, 9, 9, 9, 9, 9, 0xFF, 0x01, 9] with sel := false }
        ∧ Config.default.legal = true ∧ ([9, 9, 9, 9, 9, 9] : List Byte).length = 6 ∧ (0x01#8) ≠ 0xFF#8
        ∧ 1 < Config.default.respPollBudget
        ∧ ([9, 9, 9, 9, 9, 9, 0xFF, 0x01, 9] : List Byte) = [9, 9, 9, 9, 9, 9] ++ List.replicate 1 0xFF#8 ++ [0x01#8, 9] ++ [])
      ∧ BlockInv (under onePoll (running 0x12#8 .uninitialized (.start .sendcmd) .sendcmd [9, 9, 9, 9, 9, 9, 0xFF, 5]))
      ∧ onePoll.legal = true
      ∧ ([9, 9, 9, 9, 9, 9, 0xFF, 5] : List Byte) = [9, 9, 9, 9, 9, 9] ++ List.replicate onePoll.respPollBudget 0xFF#8 ++ [5] :=
  ⟨⟨inv_of (by decide), by decide⟩, inv_of (by decide), by decide⟩

theorem witness_OperationsBeginTheirFrame :
    (running 0x32#8 .uninitialized (.start .sendcmd) .sendcmd []).cfg.legal = true
      ∧ (running 0x32#8 .uninitialized (.start .sendcmd) .sendcmd []).busy = true
      ∧ nextTurn (running 0x32#8 .uninitialized (.start .sendcmd) .sendcmd []) = .sequencer
      ∧ ((running 0x32#8 .uninitialized (.start .sendcmd) .sendcmd []).lastop.extractLsb' 4 3).toNat < 4
      ∧ cmdselCommand ((running 0x32#8 .uninitialized (.start .sendcmd) .sendcmd []).lastop.extractLsb' 4 3) = some .sdSendOpCond
      ∧ (running 0x03#8 .sdCard (.start .read) .sendcmd []).seq.pos = .start .read
      ∧ (running 0x04#8 .sdCard (.start .rdpart) .sendcmd []).seq.pos = .start .rdpart
      ∧ (running 0x05#8 .sdCard (.start .write) .sendcmd []).seq.pos = .start .write := by
  decide

theorem witness_PowerUpSendsFiller :
    BlockInv { running 0x01#8 .uninitialized (.start .init) .sendcmd [] with sel := false }
      ∧ (running 0x01#8 .uninitialized (.start .init) .sendcmd []).cfg.legal = true
      ∧ (running 0x01#8 .uninitialized (.start .init) .sendcmd []).agenda = []
      ∧ (running 0x01#8 .uninitialized (.start .init) .sendcmd []).seq.pos = .start .init :=
  ⟨inv_of (by decide), by decide⟩

/-- INIT after j filler bytes. -/
def afterFiller (j : BitVec 16) : State :=
  { running 0x01#8 .poweringUp .filler .sendcmd [] with
    sel := false
    seq := { Sequencer.reset with pos := .filler, j := j } }

theorem witness_FillerThenFirstGoIdle :
    BlockInv (afterFiller 9#16) ∧ BlockInv (afterFiller 10#16) ∧ (afterFiller 9#16).cfg.legal = true
      ∧ nextTurn (afterFiller 9#16) = .sequencer ∧ (afterFiller 9#16).seq.pos = .filler
      ∧ (afterFiller 9#16).seq.j.toNat < (afterFiller 9#16).cfg.powerupFillerBytes
      ∧ (afterFiller 10#16).seq.j.toNat = (afterFiller 10#16).cfg.powerupFillerBytes :=
  ⟨inv_of (by decide), inv_of (by decide), by decide⟩

/-- SendCommand returns r to a call site in attempt n. -/
def returnsTo (x : Session) (c : Caller) (r : Byte) (n : BitVec 16) : State :=
  { responded r (running 0x01#8 x .respDummy c []) with att := n }

/-- The three outcomes of a GO_IDLE, the last one also by a timeout. -/
theorem witness_GoIdleResponseDecides :
    (BlockInv (returnsTo .poweringUp .initIdle 0x01#8 1#16) ∧ returning (returnsTo .poweringUp .initIdle 0x01#8 1#16) .initIdle 0x01#8)
      ∧ (BlockInv (returnsTo .poweringUp .initIdle 0x05#8 31#16) ∧ (31#16).toNat < Config.default.idleAttempts)
      ∧ (BlockInv (returnsTo .poweringUp .initIdle 0x05#8 32#16) ∧ (32#16).toNat = Config.default.idleAttempts)
      ∧ (BlockInv (received 0xFF#8 (under onePoll (running 0x01#8 .poweringUp .respPoll .initIdle [])))
        ∧ returning (received 0xFF#8 (under onePoll (running 0x01#8 .poweringUp .respPoll .initIdle []))) .initIdle 0xFF#8)
      ∧ nextTurn (returnsTo .poweringUp .initIdle 0x01#8 1#16) = .sequencer ∧ Config.default.legal = true :=
  ⟨⟨inv_of (by decide), by unfold returning; decide⟩, ⟨inv_of (by decide), by decide⟩, ⟨inv_of (by decide), by decide⟩,
    ⟨inv_of (by decide), by unfold returning; decide⟩, by decide⟩

theorem witness_InitCmdResponseDecides :
    (BlockInv (returnsTo .idleEntered .initInit 0x00#8 1#16) ∧ returning (returnsTo .idleEntered .initInit 0x00#8 1#16) .initInit 0x00#8)
      ∧ (BlockInv (returnsTo .idleEntered .initInit 0x01#8 254#16) ∧ (254#16).toNat < Config.default.initAttempts)
      ∧ (BlockInv (returnsTo .idleEntered .initInit 0x01#8 255#16) ∧ (255#16).toNat = Config.default.initAttempts)
      ∧ nextTurn (returnsTo .idleEntered .initInit 0x01#8 255#16) = .sequencer ∧ Config.default.legal = true :=
  ⟨⟨inv_of (by decide), by unfold returning; decide⟩, ⟨inv_of (by decide), by decide⟩, ⟨inv_of (by decide), by decide⟩, by decide⟩

theorem witness_CardTypeSelection :
    (BlockInv (returnsTo .negotiating .initApp 0x00#8 1#16) ∧ returning (returnsTo .negotiating .initApp 0x00#8 1#16) .initApp 0x00#8)
      ∧ (BlockInv (returnsTo .negotiating .initOpCond 0x00#8 1#16)
        ∧ returning (returnsTo .negotiating .initOpCond 0x00#8 1#16) .initOpCond 0x00#8)
      ∧ (BlockInv (returnsTo .negotiating .initApp 0x04#8 1#16) ∧ returning (returnsTo .negotiating .initApp 0x04#8 1#16) .initApp 0x04#8
        ∧ Config.default.mmcFastClock = true)
      ∧ (BlockInv (under { Config.default with mmcFastClock := false } (returnsTo .negotiating .initOpCond 0x01#8 1#16))
        ∧ ({ Config.default with mmcFastClock := false } : Config).legal = true)
      ∧ nextTurn (returnsTo .negotiating .initApp 0x00#8 1#16) = .sequencer ∧ Config.default.legal = true :=
  ⟨⟨inv_of (by decide), by unfold returning; decide⟩, ⟨inv_of (by decide), by unfold returning; decide⟩,
    ⟨inv_of (by decide), by unfold returning; decide⟩, ⟨inv_of (by decide), by decide⟩, by decide⟩

theorem witness_SessionTransitionRelation :
    (BlockInv (returnsTo .negotiating .initOpCond 0x00#8 1#16) ∧ (returnsTo .negotiating .initOpCond 0x00#8 1#16).session = .negotiating
        ∧ after (step (returnsTo .negotiating .initOpCond 0x00#8 1#16)) (fun t => t.session == .sdCard) = true)
      ∧ (BlockInv (afterFiller 9#16) ∧ (afterFiller 9#16).session = .poweringUp)
      ∧ BlockInv (returnsTo .idleEntered .initInit 0x01#8 255#16)
      ∧ after (step (returnsTo .idleEntered .initInit 0x01#8 255#16)) (fun t => t.session == .failed) = true :=
  ⟨⟨inv_of (by decide), by decide⟩, ⟨inv_of (by decide), by decide⟩, inv_of (by decide), by decide⟩

/-- The response of a block command was received. -/
def blockResponse (lastop : Byte) (c : Caller) (r : Byte) : State := responded r (running lastop .sdCard .respDummy c [])

theorem witness_BlockResponseChecked :
    (BlockInv (blockResponse 0x03#8 .read 0x00#8) ∧ (blockResponse 0x03#8 .read 0x00#8).resp = 0x00#8)
      ∧ (BlockInv (blockResponse 0x05#8 .write 0x00#8) ∧ (blockResponse 0x05#8 .write 0x00#8).seq.caller = .write)
      ∧ (BlockInv (blockResponse 0x04#8 .rdpart 0x04#8) ∧ (blockResponse 0x04#8 .rdpart 0x04#8).resp ≠ 0x00#8)
      ∧ (blockResponse 0x03#8 .read 0x00#8).cfg.legal = true ∧ nextTurn (blockResponse 0x03#8 .read 0x00#8) = .sequencer
      ∧ (blockResponse 0x03#8 .read 0x00#8).seq.pos = .respDummy
      ∧ (blockResponse 0x03#8 .read 0x00#8).seq.caller ∈ [Caller.read, .rdpart, .write] :=
  ⟨⟨inv_of (by decide), by decide⟩, ⟨inv_of (by decide), by decide⟩, ⟨inv_of (by decide), by decide⟩, by decide⟩

/-- A byte was received at the token site. -/
def tokenAt (cfg : Config) (n : BitVec 16) (x : Byte) : State :=
  under cfg (polled n (received x (running 0x03#8 .sdCard .tokenPoll .read [])))

/-- FIRST_NON_FF. -/
def firstNonFf : Config := { Config.default with tokenMatchMode := .firstNonFf }

theorem witness_TokenPollOutcomes :
    (BlockInv (tokenAt Config.default 65534#16 0xFE#8) ∧ (tokenAt Config.default 65534#16 0xFE#8).seq.rx = 0xFE#8)
      ∧ (BlockInv (tokenAt firstNonFf 0#16 0x08#8) ∧ firstNonFf.legal = true ∧ firstNonFf.tokenMatchMode = .firstNonFf)
      ∧ (BlockInv (tokenAt firstNonFf 65534#16 0xFF#8) ∧ (65534#16).toNat + 1 = firstNonFf.tokenPollBudget)
      ∧ (BlockInv (tokenAt Config.default 65533#16 0x08#8) ∧ (65533#16).toNat + 1 < Config.default.tokenPollBudget)
      ∧ Config.default.legal = true ∧ nextTurn (tokenAt Config.default 0#16 0xFE#8) = .sequencer
      ∧ (tokenAt Config.default 0#16 0xFE#8).seq.pos = .tokenPoll :=
  ⟨⟨inv_of (by decide), by decide⟩, ⟨inv_of (by decide), by decide⟩, ⟨inv_of (by decide), by decide⟩,
    ⟨inv_of (by decide), by decide⟩, by decide⟩

/-- The answers of a card that sends a sector of `v` after one byte to skip. -/
def sectorAnswers (v : Byte) : List Byte :=
  [9, 9, 9, 9, 9, 9] ++ List.replicate 1 0xFF#8 ++ [0x00#8, 7] ++ [0xFF#8] ++ [0xFE#8] ++ List.replicate 512 v ++ [1, 2, 3] ++ []

/-- A READ is requested of that card. -/
def readRequest : State := { requesting (0#5 ++ 3#3) (resting .sdCard) with card := sectorAnswers 0xFE#8 }

theorem witness_ReadStoresTheSector :
    readRequest.cfg.legal = true ∧ BlockInv readRequest ∧ readRequest.busy = false
      ∧ (readRequest.session = .sdCard ∨ readRequest.session = .mmcCard)
      ∧ readRequest.agenda = [.host (.write 0x200#10 1 (0#5 ++ 3#3))]
      ∧ ([9, 9, 9, 9, 9, 9] : List Byte).length = 6 ∧ 1 < readRequest.cfg.respPollBudget
      ∧ ([0xFF#8] : List Byte).length < readRequest.cfg.tokenPollBudget ∧ (List.replicate 512 0xFE#8).length = 512
      ∧ (∀ b ∈ [0xFF#8], b ≠ 0xFE#8 ∧ (readRequest.cfg.tokenMatchMode = .firstNonFf → b = 0xFF#8))
      ∧ readRequest.card = [9, 9, 9, 9, 9, 9] ++ List.replicate 1 0xFF#8 ++ [0x00#8, 7] ++ [0xFF#8] ++ [0xFE#8]
          ++ List.replicate 512 0xFE#8 ++ [1, 2, 3] ++ [] :=
  ⟨by decide, inv_of (by decide), by decide, by decide, by decide, by decide, by decide, by decide, List.length_replicate, by decide, rfl⟩

/-- An RDPART is requested of that card, with the window of vector B1. -/
def partRequest : State :=
  { window 510#10 2#10 (requesting (0#5 ++ 4#3) (resting .mmcCard)) with card := sectorAnswers 0x5A#8, buf := [(2, 0x22#8)] }

theorem witness_RdpartStoresTheWindow :
    partRequest.cfg.legal = true ∧ BlockInv partRequest ∧ partRequest.busy = false
      ∧ (partRequest.session = .sdCard ∨ partRequest.session = .mmcCard)
      ∧ partRequest.offs.toNat + partRequest.cnt.toNat ≤ 512
      ∧ partRequest.agenda = [.host (.write 0x200#10 1 (0#5 ++ 4#3))]
      ∧ ([9, 9, 9, 9, 9, 9] : List Byte).length = 6 ∧ 1 < partRequest.cfg.respPollBudget
      ∧ ([0xFF#8] : List Byte).length < partRequest.cfg.tokenPollBudget ∧ (List.replicate 512 0x5A#8).length = 512
      ∧ (∀ b ∈ [0xFF#8], b ≠ 0xFE#8 ∧ (partRequest.cfg.tokenMatchMode = .firstNonFf → b = 0xFF#8))
      ∧ partRequest.card = [9, 9, 9, 9, 9, 9] ++ List.replicate 1 0xFF#8 ++ [0x00#8, 7] ++ [0xFF#8] ++ [0xFE#8]
          ++ List.replicate 512 0x5A#8 ++ [1, 2, 3] ++ []
      ∧ (1 : Nat) < partRequest.cnt.toNat ∧ partRequest.cnt.toNat ≤ 2 :=
  ⟨by decide, inv_of (by decide), by decide, by decide, by decide, by decide, by decide, by decide, by decide, List.length_replicate, by decide, rfl,
    by decide⟩

/-- A READ (then an RDPART) that times out after eight steps, and a state at every position of the second clause. -/
theorem witness_FailedReadKeepsBuf :
    (BlockInv (under onePoll (running 0x03#8 .sdCard (.start .read) .sendcmd (List.replicate 7 0xFF#8)))
        ∧ after (core.run 8 (under onePoll (running 0x03#8 .sdCard (.start .read) .sendcmd (List.replicate 7 0xFF#8)))) (fun t => t.fail)
          = true
        ∧ (under onePoll (running 0x03#8 .sdCard (.start .read) .sendcmd (List.replicate 7 0xFF#8))).agenda = [])
      ∧ (BlockInv (under onePoll (running 0x04#8 .mmcCard (.start .rdpart) .sendcmd (List.replicate 7 0xFF#8)))
        ∧ after (core.run 8 (under onePoll (running 0x04#8 .mmcCard (.start .rdpart) .sendcmd (List.replicate 7 0xFF#8)))) (fun t => t.fail)
          = true)
      ∧ (BlockInv (received 0xA5#8 (running 0x03#8 .sdCard .readData .read [1]))
        ∧ after (step (received 0xA5#8 (running 0x03#8 .sdCard .readData .read [1]))) (fun t => t.buf == [(0, 0xA5#8)]) = true)
      ∧ (BlockInv (tokenAt firstNonFf 0#16 0x08#8) ∧ (tokenAt firstNonFf 0#16 0x08#8).busy = true
        ∧ nextTurn (tokenAt firstNonFf 0#16 0x08#8) ≠ .reset
        ∧ after (step (tokenAt firstNonFf 0#16 0x08#8)) (fun t => t.fail) = true)
      ∧ BlockInv (running 0x04#8 .sdCard .partData .rdpart []) ∧ BlockInv (running 0x03#8 .sdCard .crcFirst .read [])
      ∧ BlockInv (running 0x03#8 .sdCard .crcSecond .read []) ∧ BlockInv (running 0x03#8 .sdCard .trailer .read []) :=
  ⟨⟨inv_of (by decide), by decide⟩, ⟨inv_of (by decide), by decide⟩, ⟨inv_of (by decide), by decide⟩,
    ⟨inv_of (by decide), by decide⟩, inv_of (by decide), inv_of (by decide), inv_of (by decide), inv_of (by decide)⟩

/-- A WRITE after its response, BUF full of bytes that differ. -/
def writeReady : State := { blockResponse 0x05#8 .write 0x00#8 with buf := Laws.fullBuf (BitVec.ofNat 8) }

/-- BUF full, its last byte written; and a BUF whose first byte only is written. -/
theorem witness_WriteSendsTheBuffer :
    (writeReady.cfg.legal = true ∧ BlockInv writeReady ∧ writeReady.agenda = [] ∧ writeReady.seq.pos = .respDummy
        ∧ writeReady.seq.caller = .write ∧ writeReady.resp = 0x00#8 ∧ Memory.read writeReady.buf 511 = some 0xFF#8)
      ∧ BlockInv { blockResponse 0x05#8 .write 0x00#8 with buf := [(0, 0xA5#8)] }
      ∧ Memory.read [(0, 0xA5#8)] 0 = some 0xA5#8 ∧ Memory.read [(0, 0xA5#8)] 511 = none := by
  refine ⟨⟨by decide, Laws.blockInv_withBuf (inv_of (by decide)) (Laws.fullBuf_wf _), rfl, rfl, rfl, rfl, ?_⟩, inv_of (by decide), by decide⟩
  have full : writeReady.buf = Laws.fullBuf (BitVec.ofNat 8) := by simp only [writeReady]
  rw [full, Laws.fullBuf_read _ (by omega)]
  decide

/-- A byte was received at the data-response site. -/
def dataResponseAt (n : BitVec 16) (x : Byte) : State := polled n (received x (running 0x05#8 .sdCard .drespPoll .write []))

theorem witness_DataResponsePollOutcomes :
    (BlockInv (dataResponseAt 255#16 0x15#8) ∧ (0x15#8).extractLsb' 0 4 = 0x5#4)
      ∧ (BlockInv (dataResponseAt 0#16 0x1B#8) ∧ (0x1B#8).extractLsb' 0 4 = 0xB#4)
      ∧ (BlockInv (dataResponseAt 0#16 0x0D#8) ∧ (0x0D#8).extractLsb' 0 4 = 0xD#4)
      ∧ (BlockInv (dataResponseAt 255#16 0xFF#8) ∧ (255#16).toNat + 1 = Config.default.wrespPollBudget)
      ∧ (BlockInv (dataResponseAt 254#16 0x03#8) ∧ (254#16).toNat + 1 < Config.default.wrespPollBudget)
      ∧ (dataResponseAt 0#16 0x03#8).cfg.legal = true ∧ nextTurn (dataResponseAt 0#16 0x03#8) = .sequencer
      ∧ (dataResponseAt 0#16 0x03#8).seq.pos = .drespPoll :=
  ⟨⟨inv_of (by decide), by decide⟩, ⟨inv_of (by decide), by decide⟩, ⟨inv_of (by decide), by decide⟩,
    ⟨inv_of (by decide), by decide⟩, ⟨inv_of (by decide), by decide⟩, by decide⟩

/-- A byte was received at the busy site. -/
def busyAt (n : BitVec 16) (x : Byte) : State := polled n (received x (running 0x05#8 .sdCard .busyPoll .write []))

theorem witness_BusyRow :
    (busyAt 65533#16 0x00#8).cfg.legal = true ∧ (65533#16).toNat + 1 < (busyAt 65533#16 0x00#8).cfg.busyPollBudget
      ∧ (65534#16).toNat + 1 = (busyAt 65534#16 0x00#8).cfg.busyPollBudget := by
  decide

theorem witness_WriteEndsWithFiller :
    BlockInv (busyAt 65534#16 0x01#8) ∧ (busyAt 65534#16 0x01#8).cfg.legal = true ∧ (busyAt 65534#16 0x01#8).agenda = []
      ∧ (busyAt 65534#16 0x01#8).seq.pos = .busyPoll ∧ (busyAt 65534#16 0x01#8).seq.rx ≠ 0x00#8 :=
  ⟨inv_of (by decide), by decide⟩

/-- A failure of each kind of record: SESSION, RESP and DRESP. -/
theorem witness_FailureEntry :
    (BlockInv (returnsTo .poweringUp .initIdle 0x05#8 32#16) ∧ (returnsTo .poweringUp .initIdle 0x05#8 32#16).busy = true
        ∧ after (step (returnsTo .poweringUp .initIdle 0x05#8 32#16)) (fun t => t.fail && t.session == .failed) = true)
      ∧ (BlockInv (responded 0x00#8 (received 0xFF#8 (under onePoll (running 0x02#8 .uninitialized .respPoll .sendcmd []))))
        ∧ after (step (responded 0x00#8 (received 0xFF#8 (under onePoll (running 0x02#8 .uninitialized .respPoll .sendcmd [])))))
          (fun t => t.fail && t.resp == 0xFF#8) = true)
      ∧ BlockInv (dataResponseAt 0#16 0x1B#8) ∧ after (step (dataResponseAt 0#16 0x1B#8)) (fun t => t.fail && t.dresp == 0x1B#8) = true :=
  ⟨⟨inv_of (by decide), by decide⟩, ⟨inv_of (by decide), by decide⟩, inv_of (by decide), by decide⟩

theorem witness_OperationsTerminate :
    BlockInv (running 0x01#8 .uninitialized (.start .init) .sendcmd []) ∧ BlockInv (running 0x02#8 .failed (.start .sendcmd) .sendcmd [])
      ∧ BlockInv (running 0x03#8 .sdCard (.start .read) .sendcmd []) ∧ BlockInv (running 0x04#8 .sdCard (.start .rdpart) .sendcmd [])
      ∧ BlockInv (running 0x05#8 .mmcCard (.start .write) .sendcmd [])
      ∧ (running 0x05#8 .mmcCard (.start .write) .sendcmd []).cfg.legal = true
      ∧ (running 0x05#8 .mmcCard (.start .write) .sendcmd []).agenda = [] :=
  ⟨inv_of (by decide), inv_of (by decide), inv_of (by decide), inv_of (by decide), inv_of (by decide), by decide⟩

/-- A host read of a BUF byte that was written, and of the last address. -/
theorem witness_HostReadReturnsRegister :
    (turns [HostProgram.rd 0x1FF#10] { resting .sdCard with buf := [(511, 0xA5#8)] }).cfg.legal = true
      ∧ nextTurn (turns [HostProgram.rd 0x1FF#10] { resting .sdCard with buf := [(511, 0xA5#8)] }) = .host (.read 0x1FF#10 1)
      ∧ Memory.read [(511, 0xA5#8)] (0x1FF#10).toNat = some 0xA5#8
      ∧ nextTurn (turns [HostProgram.rd 0x3FF#10] State.reset) = .host (.read 0x3FF#10 1) ∧ 0x210 ≤ (0x3FF#10).toNat
      ∧ nextTurn (turns [HostProgram.rd 0x202#10] { State.reset with done := true, fail := true, err := .badOp })
        = .host (.read 0x202#10 1)
      ∧ nextTurn (turns [HostProgram.rd 0x205#10] (resting .failed)) = .host (.read 0x205#10 1) := by
  decide

theorem witness_BusyShutsTheHostOut :
    (turns [HostProgram.wr 0x200#10 0x03#8] (afterFiller 9#16)).cfg.legal = true ∧ (afterFiller 9#16).busy = true
      ∧ nextTurn (turns [HostProgram.wr 0x200#10 0x03#8] (afterFiller 9#16)) = .host (.write 0x200#10 1 0x03#8)
      ∧ nextTurn (turns [HostProgram.rd 0x1FF#10] (afterFiller 9#16)) = .host (.read 0x1FF#10 1) ∧ (0x1FF#10).toNat < 512
      ∧ nextTurn (turns [HostProgram.rd 0x200#10] (afterFiller 9#16)) = .host (.read 0x200#10 1) ∧ 512 ≤ (0x200#10).toNat := by
  decide

theorem witness_UnwrittenBufIsFresh :
    (turns [HostProgram.rd 0x000#10] State.reset).cfg.legal = true
      ∧ nextTurn (turns [HostProgram.rd 0x000#10] State.reset) = .host (.read 0x000#10 1) ∧ (0x000#10).toNat < 512
      ∧ Memory.read (turns [HostProgram.rd 0x000#10] State.reset).buf (0x000#10).toNat = none := by
  decide

/-- The last BUF byte and the highest parameter register. -/
theorem witness_HostWriteStoresParameter :
    (turns [HostProgram.wr 0x1FF#10 0xA5#8] State.reset).cfg.legal = true ∧ State.reset.busy = false
      ∧ nextTurn (turns [HostProgram.wr 0x1FF#10 0xA5#8] State.reset) = .host (.write 0x1FF#10 1 0xA5#8)
      ∧ (0x1FF#10 : BitVec 10) ≠ 0x200#10 ∧ (0x1FF#10).toNat < 512
      ∧ nextTurn (turns [HostProgram.wr 0x20F#10 0xFF#8] State.reset) = .host (.write 0x20F#10 1 0xFF#8)
      ∧ 512 ≤ (0x20F#10).toNat := by
  decide

theorem witness_OperationsKeepParameters :
    after (step (running 0x03#8 .sdCard (.start .read) .sendcmd [1])) (fun _ => true) = true
      ∧ nextTurn (running 0x03#8 .sdCard (.start .read) .sendcmd [1]) = .sequencer := by
  decide

/-- Steps that write RESP, DRESP (twice), ATT and CLKFAST, one of a WRITE and one that fails. -/
theorem witness_ResultRegistersWriters :
    (BlockInv (received 0x05#8 (running 0x02#8 .uninitialized .respPoll .sendcmd [1]))
        ∧ after (step (received 0x05#8 (running 0x02#8 .uninitialized .respPoll .sendcmd [1]))) (fun t => t.resp != 0xFF#8) = true)
      ∧ (BlockInv (dataResponseAt 0#16 0x1B#8) ∧ after (step (dataResponseAt 0#16 0x1B#8)) (fun t => t.dresp != 0xFF#8) = true)
      ∧ (BlockInv (requesting 0x05#8 { resting .sdCard with dresp := 0x0B#8 })
        ∧ after (step (requesting 0x05#8 { resting .sdCard with dresp := 0x0B#8 })) (fun t => t.dresp != 0x0B#8) = true)
      ∧ BlockInv { returnsTo .poweringUp .initIdle 0x05#8 31#16 with card := [1] }
      ∧ after (step { returnsTo .poweringUp .initIdle 0x05#8 31#16 with card := [1] }) (fun t => t.att == 32#16) = true
      ∧ (BlockInv (returnsTo .negotiating .initOpCond 0x00#8 1#16)
        ∧ after (step (returnsTo .negotiating .initOpCond 0x00#8 1#16)) (fun t => t.clkfast) = true
        ∧ (returnsTo .negotiating .initOpCond 0x00#8 1#16).clkfast = false)
      ∧ (dataResponseAt 0#16 0x1B#8).busy = true ∧ (dataResponseAt 0#16 0x1B#8).lastop.extractLsb' 0 3 ≠ 1#3
      ∧ after (step (dataResponseAt 0#16 0x1B#8)) (fun t => t.fail) = true :=
  ⟨⟨inv_of (by decide), by decide⟩, ⟨inv_of (by decide), by decide⟩, ⟨inv_of (by decide), by decide⟩, inv_of (by decide), by decide,
    ⟨inv_of (by decide), by decide⟩, by decide⟩

/-- The first step of SENDCMD, and the last filler byte of INIT. -/
theorem witness_StepsThatBeginAFrameRunItsRow :
    (nextTurn (running 0x32#8 .uninitialized (.start .sendcmd) .sendcmd [1]) = .sequencer
        ∧ after (step (running 0x32#8 .uninitialized (.start .sendcmd) .sendcmd [1])) (fun t => t.seq.pos == .frame 1) = true)
      ∧ nextTurn (afterFiller 10#16) = .sequencer
      ∧ after (step (afterFiller 10#16)) (fun t => t.seq.pos == .frame 1 && t.seq.cmd == .goIdle) = true := by
  decide

theorem witness_PseudoInstructionsLoad : State.reset.cfg.legal = true ∧ State.reset.busy = false := by
  decide

end Sys2Proof.Tests
end

