-- ==== Sys2Proof/Proofs/Scope.lean ====
section
/-! The outcomes a step can have, and the configurations that are refused (00_scope.md R6, R8). -/

namespace Sys2Proof.Proofs

open Sys2Proof.Machine

/-! ## Which configurations are legal -/

/-- The check of R8 is the legal range column of R6; `Laws.legal_bounds` is its forward half. -/
theorem legal_iff_bounds (c : Config) :
    c.legal = true ↔
      (1 ≤ c.respPollBudget ∧ c.respPollBudget ≤ 65535) ∧ (1 ≤ c.idleAttempts ∧ c.idleAttempts ≤ 65535)
        ∧ (1 ≤ c.initAttempts ∧ c.initAttempts ≤ 65535) ∧ (1 ≤ c.tokenPollBudget ∧ c.tokenPollBudget ≤ 65535)
        ∧ (1 ≤ c.wrespPollBudget ∧ c.wrespPollBudget ≤ 65535) ∧ (1 ≤ c.busyPollBudget ∧ c.busyPollBudget ≤ 65535)
        ∧ (10 ≤ c.powerupFillerBytes ∧ c.powerupFillerBytes ≤ 65535) ∧ c.idleOk ≠ 0xFF#8 := by
  constructor
  · exact Laws.legal_bounds
  · intro bounds
    simpa [Config.legal, budgetLegal, and_assoc] using bounds

/-! ## What can stop a step -/

/-- Every row of the opcode table has a meaning, and none of them stops the machine. -/
theorem exec_eq_next (i : Instr) (s : State) : ∃ t, exec i s = .next t := by
  cases i <;> exact ⟨_, rfl⟩

/-- The only refusal of a host access is that of its width (20_memory.md R65). -/
theorem hostAccess_outcomes (a : HostAccess) (s : State) :
    (∃ t, hostAccess a s = .next t) ∨ hostAccess a s = .refused .accessWidth := by
  unfold hostAccess
  split
  · exact .inl ⟨_, rfl⟩
  · exact .inl ⟨_, rfl⟩
  · exact .inr rfl
  · exact .inr rfl

/-- A turn outside the opcode table stops only at a host access of another width or at a sequencer turn in an incoherent state. -/
theorem perform_outcomes (c : Chore) (s : State) :
    (∃ t, perform c s = .next t) ∨ perform c s = .refused .accessWidth ∨ perform c s = .fault .incoherentSequencer := by
  cases c with
  | access a => exact (hostAccess_outcomes a s).imp_right .inl
  | incoherent => exact .inr (.inr rfl)
  | unlisted u => exact .inl ⟨_, rfl⟩
  | statements => exact .inl ⟨_, rfl⟩
  | wait => exact .inl ⟨_, rfl⟩
  | reset => exact .inl ⟨_, rfl⟩

/-- Under a legal configuration a step stops only as a turn outside the opcode table does. -/
theorem step_outcomes {s : State} (legal : s.cfg.legal = true) :
    (∃ t, step s = .next t) ∨ step s = .refused .accessWidth ∨ step s = .fault .incoherentSequencer := by
  rw [step, if_pos legal]
  split
  · exact .inl (exec_eq_next _ _)
  · exact perform_outcomes _ _

/-! ## Which configurations are refused -/

theorem step_of_illegal {s : State} (illegal : s.cfg.legal = false) : step s = .refused .illegalConfiguration := by
  simp [step, illegal]

theorem step_ne_illegalConfiguration_of_legal {s : State} (legal : s.cfg.legal = true) : step s ≠ .refused .illegalConfiguration := by
  obtain ⟨t, next⟩ | width | fault := step_outcomes legal
  · simp [next]
  · simp [width]
  · simp [fault]

/-- Settles O8: the ranges by the definition of the check, the refusal because no other cause of a stop carries its reason. -/
theorem illegalConfigurationRefused : Obligations.IllegalConfigurationRefused := by
  intro s
  refine ⟨legal_iff_bounds s.cfg, step_of_illegal, fun refused => ?_⟩
  by_contra notIllegal
  exact step_ne_illegalConfiguration_of_legal (Bool.eq_true_of_not_eq_false notIllegal) refused

end Sys2Proof.Proofs
end

