-- ==== Sys2Proof/Proofs/Memory.lean ====
section
/-! The host's accesses while BUSY = 1 (20_memory.md R69). -/

namespace Sys2Proof.Proofs

open Sys2Proof.Machine

/-! ## Requests while an operation runs (40_protocol.md R120) -/

theorem decodeRequest_space (v : Byte) : (decodeRequest v).space = .request := by
  unfold decodeRequest
  split
  case h_3 => dsimp only; split <;> rfl
  all_goals rfl

/-- A request row leaves a busy machine as it is: NOP does nothing, and every other row is a `request`. -/
theorem exec_request_of_busy {i : Instr} {s : State} (space : i.space = .request) (busy : s.busy = true) : exec i s = .next s := by
  cases i
  case nop => rfl
  case init | sendcmd | sendcmdBadsel | read | rdpart | write | reserved6 | reserved7 =>
    exact congrArg Host.Outcome.next (Laws.request_busy busy)
  all_goals cases space

/-! ## Accesses of the host port -/

theorem hostWrite_of_busy (a : BitVec 10) (v : Byte) {s : State} (busy : s.busy = true) : hostWrite a v s = s :=
  if_pos busy

/-- A BUF byte the host reads while BUSY = 1 is the next free value, which is drawn. -/
theorem hostRead_buf_of_busy {a : BitVec 10} {s : State} (busy : s.busy = true) (inBuf : a.toNat < 512) :
    hostRead a s = { s with draws := s.draws + 1, reads := s.reads ++ [{ addr := a, value := Config.freeByte s.draws }] } := by
  simp [hostRead, hostReadValue, hostReadDraws, busy, inBuf]

/-- A register is read at its current value and nothing is drawn, whatever BUSY is. -/
theorem hostRead_register {a : BitVec 10} {s : State} (register : 512 ≤ a.toNat) :
    hostRead a s = { s with reads := s.reads ++ [{ addr := a, value := registerByte s a.toNat }] } := by
  simp [hostRead, hostReadValue, hostReadDraws, Nat.not_lt.mpr register]

/-- The registers do not show whose turn is next. -/
theorem registerByte_turnTaken (s : State) (a : Nat) : registerByte (turnTaken s) a = registerByte s a := rfl

/-! ## The step of a one-byte access -/

theorem step_hostRead {s : State} {a : BitVec 10} (legal : s.cfg.legal = true) (turn : nextTurn s = .host (.read a 1)) :
    step s = .next (hostRead a (turnTaken s)) :=
  Laws.step_host legal turn

theorem step_hostWrite {s : State} {a : BitVec 10} {v : Byte} (legal : s.cfg.legal = true)
    (turn : nextTurn s = .host (.write a 1 v)) (notRequest : a ≠ 0x200#10) : step s = .next (hostWrite a v (turnTaken s)) := by
  rw [Laws.step_host legal turn, Laws.hostWork_write v notRequest]
  rfl

theorem step_hostRequest {s : State} {v : Byte} (legal : s.cfg.legal = true)
    (turn : nextTurn s = .host (.write 0x200#10 1 v)) : step s = exec (decodeRequest v) (turnTaken s) := by
  rw [Laws.step_host legal turn, Laws.hostWork_request]

/-- A host write while BUSY = 1, a request or a store, does nothing but take the turn. -/
theorem step_hostWrite_of_busy {s : State} {a : BitVec 10} {v : Byte} (legal : s.cfg.legal = true) (busy : s.busy = true)
    (turn : nextTurn s = .host (.write a 1 v)) : step s = .next (turnTaken s) := by
  have stillBusy : (turnTaken s).busy = true := busy
  by_cases isRequest : a = 0x200#10
  · subst isRequest
    rw [step_hostRequest legal turn, exec_request_of_busy (decodeRequest_space v) stillBusy]
  · rw [step_hostWrite legal turn isRequest, hostWrite_of_busy a v stillBusy]

/-- Settles O53: a write, be it a request or a store, is ignored, and a read is a fresh draw in BUF and the register's value above it. -/
theorem busyShutsTheHostOut : Obligations.BusyShutsTheHostOut := by
  intro s a v legal busy
  refine ⟨step_hostWrite_of_busy legal busy, fun turn inBuf => ?_, fun turn register => ?_⟩
  · have stillBusy : (turnTaken s).busy = true := busy
    rw [step_hostRead legal turn, hostRead_buf_of_busy stillBusy inBuf]
    rfl
  · rw [step_hostRead legal turn, hostRead_register register, registerByte_turnTaken]
    rfl

end Sys2Proof.Proofs
end

