-- ==== Sys2Proof/Proofs/Encoding.lean ====
section
/-! The fields of a command frame and the six bytes it is sent as (30_encoding.md R85). -/

namespace Sys2Proof.Proofs

/-! ## The fields of the 48-bit frame -/

theorem frameWord_trailerField (b : Byte) (arg : BitVec 32) : (frameWord b arg).extractLsb' 0 8 = trailerByte :=
  (BitVec.extractLsb'_append_eq_of_add_le (xhi := b ++ arg) (xlo := trailerByte) (Nat.le_refl 8)).trans BitVec.extractLsb'_eq_self

/-- Above the trailer a field of the frame is that of the command byte over the argument. -/
theorem frameWord_aboveTrailer (b : Byte) (arg : BitVec 32) {start len : Nat} (above : 8 ≤ start) :
    (frameWord b arg).extractLsb' start len = (b ++ arg).extractLsb' (start - 8) len :=
  BitVec.extractLsb'_append_eq_of_le (xhi := b ++ arg) (xlo := trailerByte) above

theorem frameWord_commandField (b : Byte) (arg : BitVec 32) : (frameWord b arg).extractLsb' 40 8 = b := by
  rw [frameWord_aboveTrailer b arg (by decide), BitVec.extractLsb'_append_eq_of_le (by decide), BitVec.extractLsb'_eq_self]

/-- Every field of bits 39:8, the whole argument and each of its bytes, is that of the argument 8 bits lower. -/
theorem frameWord_argumentField (b : Byte) (arg : BitVec 32) {start len : Nat} (above : 8 ≤ start) (below : start + len ≤ 40) :
    (frameWord b arg).extractLsb' start len = arg.extractLsb' (start - 8) len := by
  rw [frameWord_aboveTrailer b arg above, BitVec.extractLsb'_append_eq_of_add_le (by omega)]

/-! ## The bytes in the order of sending -/

/-- Byte 0 stands highest in the frame and byte 5 lowest. -/
theorem frameBytes_eq_fields (b : Byte) (arg : BitVec 32) :
    frameBytes b arg = [40, 32, 24, 16, 8, 0].map ((frameWord b arg).extractLsb' · 8) := rfl

/-- Settles O4: the fields of the frame, read from the command byte down to the trailer. -/
theorem frameIsSixBytes : Obligations.FrameIsSixBytes := by
  intro b arg
  refine ⟨?_, frameWord_commandField b arg, ?_, frameWord_trailerField b arg⟩
  · simp [frameBytes_eq_fields, frameWord_commandField, frameWord_argumentField, frameWord_trailerField, trailerByte]
  · rw [frameWord_argumentField b arg (by decide) (by decide), BitVec.extractLsb'_eq_self]

end Sys2Proof.Proofs
end

