-- ==== Sys2Proof/Proofs/Protocol.lean ====
section
/-! Requests that are ignored or refused, and the frame that SendCommand sends (40_protocol.md R120 to R124). -/

namespace Sys2Proof.Proofs

open Sys2Proof.Machine

/-! ## NOP (R121) -/

/-- Bits 7:3 of a request byte with OP = 0 decide nothing. -/
theorem decodeRequest_nop {v : Byte} (op : v.extractLsb' 0 3 = 0#3) : decodeRequest v = .nop (v.extractLsb' 3 5) := by
  simp [decodeRequest, op]

/-- Settles O16: the row does nothing by definition, and a byte with OP = 0 decodes to that row. -/
theorem nopChangesNothing : Obligations.NopChangesNothing := by
  intro s ignored
  refine ⟨rfl, fun legal v op turn => ?_⟩
  rw [step_hostRequest legal turn, decodeRequest_nop op]
  rfl

/-! ## Refusals at acceptance (R120, R122) -/

/-- A machine at rest is not selected (R136). -/
theorem sel_of_not_busy {s : State} (inv : BlockInv s) (rest : s.busy = false) : s.sel = false := by
  by_contra selected
  have busy := inv.selOnlyBusy (Bool.eq_true_of_not_eq_false selected)
  simp [rest] at busy

/-- A request that fails its check at rest is refused with the check's code: since the card is not selected, Fail adds no bus event. -/
theorem refusedWith_request {v : Byte} {check : State → Option ErrCode} {begin : State → State} {s : State} {code : ErrCode}
    (inv : BlockInv s) (rest : s.busy = false) (checked : check (takeUp v s) = some code) :
    refusedWith v code s (request v check begin s) := by
  have unselected : (takeUp v s).sel = false := sel_of_not_busy (s := s) inv rest
  rw [Laws.request_refused rest checked, Laws.failWith_unselected unselected]
  exact ⟨by simp [takeUp, rest], rfl⟩

/-- Settles O21: the check of both reserved rows fails in every state. -/
theorem reservedRequestsFailBadOp : Obligations.ReservedRequestsFailBadOp := by
  intro s ignored inv rest
  exact ⟨⟨_, rfl, refusedWith_request inv rest rfl⟩, ⟨_, rfl, refusedWith_request inv rest rfl⟩⟩

/-! ## The bytes and exchanges of a bus trace -/

theorem sentBytes_append (before after : List BusEvent) :
    sentBytes (before ++ after) = sentBytes before ++ sentBytes after := by
  induction before with
  | nil => rfl
  | cons event rest ih => cases event <;> simp [sentBytes, ih]

theorem exchanges_append (before after : List BusEvent) :
    exchanges (before ++ after) = exchanges before + exchanges after := by
  induction before with
  | nil => simp [exchanges]
  | cons event rest ih => cases event <;> simp [exchanges, ih, Nat.add_right_comm]

theorem sentBytes_exchangeAt (p : Pos) (tx : Byte) (s : State) :
    sentBytes (exchangeAt p tx s).trace = sentBytes s.trace ++ [tx] := sentBytes_append _ _

theorem exchanges_exchangeAt (p : Pos) (tx : Byte) (s : State) :
    exchanges (exchangeAt p tx s).trace = exchanges s.trace + 1 := exchanges_append _ _

/-! ## The frame of SendCommand (R124) -/

/-- While no turn waits, the sequencer's turn uses up none. -/
theorem turnTaken_of_agenda_nil {s : State} (alone : s.agenda = []) : turnTaken s = s := by
  rw [turnTaken, alone, List.tail_nil, ← alone]

/-- The first step of a longer run. -/
theorem run_succ_of_step {s t : State} (next : step s = .next t) (k : Nat) : core.run (k + 1) s = core.run k t := by
  simp [Host.Core.run, core, next]

/-- Inside a frame a step of the sequencer alone sends the next byte, or makes the first response poll. -/
theorem step_inFrame {s : State} {sent : Nat} (legal : s.cfg.legal = true) (busy : s.busy = true) (alone : s.agenda = [])
    (pos : s.seq.pos = .frame sent) : step s = .next (continueFrame sent s) := by
  rw [Laws.step_frame legal (by simp [nextTurn, alone]) (by simp [coherent, busy, pos]) pos, turnTaken_of_agenda_nil alone]

/-- What is left to send of a frame: the next byte and what is left after it. -/
theorem frameBytes_drop (b : Byte) (arg : BitVec 32) {sent : Nat} (more : sent < 6) :
    (frameBytes b arg).drop sent = frameByte (frameWord b arg) sent :: (frameBytes b arg).drop (sent + 1) := by
  interval_cases sent <;> rfl

/-- `t` is `s` after the bytes of its frame from `sent` on were sent: they and no others, in order, and only the bus, the card's answers and
draws, the position and the received byte have moved. -/
structure FrameSentFrom (sent : Nat) (s t : State) : Prop where
  bytes : sentBytes t.trace = sentBytes s.trace ++ (frameBytes (s.cfg.cmdByte s.seq.cmd) s.seq.arg).drop sent
  count : exchanges t.trace = exchanges s.trace + (6 - sent)
  kept : t = { s with trace := t.trace, card := t.card, draws := t.draws,
                      seq := { s.seq with pos := .frame 6, rx := t.seq.rx } }

/-- After the sixth byte nothing is left to send. -/
theorem FrameSentFrom.done {s : State} (pos : s.seq.pos = .frame 6) : FrameSentFrom 6 s s where
  bytes := (List.append_nil _).symm
  count := rfl
  kept := by rw [← pos]

/-- One more byte before the rest of the frame. -/
theorem FrameSentFrom.cons {sent : Nat} {s t : State} (more : sent < 6)
    (rest : FrameSentFrom (sent + 1) (continueFrame sent s) t) : FrameSentFrom sent s t := by
  rw [Laws.continueFrame_more more] at rest
  obtain ⟨bytes, count, kept⟩ := rest
  refine ⟨?_, ?_, kept⟩
  · rw [bytes, sentBytes_exchangeAt, frameBytes_drop _ _ more, List.append_assoc]
    rfl
  · rw [count, exchanges_exchangeAt]
    omega

/-- From any point of its frame the sequencer alone sends the rest of it, one byte a step. -/
theorem run_frame {sent left : Nat} {s : State} (total : sent + left = 6) (legal : s.cfg.legal = true) (busy : s.busy = true)
    (alone : s.agenda = []) (pos : s.seq.pos = .frame sent) : ∃ t, core.run left s = .next t ∧ FrameSentFrom sent s t := by
  induction left generalizing sent s with
  | zero =>
    obtain rfl : sent = 6 := total
    exact ⟨s, rfl, .done pos⟩
  | succ left ih =>
    have more : sent < 6 := by omega
    have sends := Laws.continueFrame_more (s := s) more
    obtain ⟨t, run, rest⟩ := ih (sent := sent + 1) (s := continueFrame sent s) (by omega) (by simpa [sends] using legal)
      (by simpa [sends] using busy) (by simpa [sends] using alone) (by simp [sends])
    exact ⟨t, (run_succ_of_step (step_inFrame legal busy alone pos) left).trans run, rest.cons more⟩

/-- After the sixth byte the next step makes the first response poll. -/
theorem step_afterFrame {s : State} (legal : s.cfg.legal = true) (busy : s.busy = true) (alone : s.agenda = [])
    (pos : s.seq.pos = .frame 6) : step s = .next (exchangeAt .respPoll fillerByte (clearPolls s)) := by
  rw [step_inFrame legal busy alone pos, Laws.continueFrame_done (by decide)]

/-- Standing before byte 0 of the frame that a call of SendCommand sends. -/
def beforeFrame (caller : Caller) (c : Command) (arg : BitVec 32) (s : State) : State :=
  { s with seq := { s.seq with pos := .frame 0, caller := caller, cmd := c, arg := arg } }

/-- A call of SendCommand is the first step of its frame. -/
theorem continueFrame_beforeFrame (caller : Caller) (c : Command) (arg : BitVec 32) (s : State) :
    continueFrame 0 (beforeFrame caller c arg s) = callCommand caller c arg s := rfl

/-- A call of SendCommand and five steps send the whole frame, byte 0 to byte 5. -/
theorem run_callCommand {s : State} (legal : s.cfg.legal = true) (busy : s.busy = true) (alone : s.agenda = [])
    (caller : Caller) (c : Command) (arg : BitVec 32) :
    ∃ t, core.run 5 (callCommand caller c arg s) = .next t ∧ FrameSentFrom 0 (beforeFrame caller c arg s) t := by
  obtain ⟨t, run, sent⟩ := run_frame (s := beforeFrame caller c arg s) (sent := 0) (left := 6) rfl legal busy alone rfl
  have first := step_inFrame (s := beforeFrame caller c arg s) legal busy alone rfl
  rw [continueFrame_beforeFrame] at first
  exact ⟨t, (run_succ_of_step first 5).symm.trans run, sent⟩

/-- Settles O26: the rest of the frame by induction on the bytes left, and a call of SendCommand as a whole frame from byte 0. -/
theorem sendCommandSendsFrame : Obligations.SendCommandSendsFrame := by
  intro s legal busy alone
  refine ⟨fun sent sentLe pos => ?_, fun caller c arg => ?_⟩
  · obtain ⟨t, run, bytes, count, kept⟩ := run_frame (Nat.add_sub_of_le sentLe) legal busy alone pos
    have poll := step_afterFrame (s := t) (by rw [kept]; exact legal) (by rw [kept]; exact busy) (by rw [kept]; exact alone)
      (by rw [kept])
    exact ⟨t, _, run, poll, bytes, count, kept, rfl, rfl, rfl⟩
  · obtain ⟨t, run, bytes, count, kept⟩ := run_callCommand legal busy alone caller c arg
    exact ⟨t, run, bytes, count, kept⟩

end Sys2Proof.Proofs
end

section
/-! The card session: which steps change SESSION and how (41_session.md R157, R159), and step 1 of INIT (R151). -/

namespace Sys2Proof.Proofs

open Sys2Proof.Machine

/-! ## What requests and the host's accesses do to SESSION (40_protocol.md R120) -/

@[simp] theorem callCommand_session (caller : Caller) (c : Command) (arg : BitVec 32) (s : State) :
    (callCommand caller c arg s).session = s.session := rfl

/-- Refused, ignored or begun, a request keeps SESSION if its acceptance does. -/
theorem request_session {v : Byte} {check : State → Option ErrCode} {begin : State → State} {s : State}
    (accepted : (begin (takeUp v s)).session = s.session) : (request v check begin s).session = s.session := by
  cases busy : s.busy with
  | true => rw [Laws.request_busy busy]
  | false =>
    cases checked : check (takeUp v s) with
    | some code => rw [Laws.request_refused busy checked, Laws.failWith_session, Laws.takeUp_session]
    | none => rw [Laws.request_accepted busy checked, accepted]

/-- Acceptance of INIT does not change SESSION yet: its first step does (R151). -/
theorem exec_request_session {i : Instr} {s : State} (space : i.space = .request) :
    ∃ t, exec i s = .next t ∧ t.session = s.session := by
  cases i
  case nop => exact ⟨_, rfl, rfl⟩
  case init | sendcmd | sendcmdBadsel | read | rdpart | write | reserved6 | reserved7 => exact ⟨_, rfl, request_session rfl⟩
  all_goals cases space

/-- A host's turn is a request, or the access itself. -/
theorem hostWork_cases (a : HostAccess) : (∃ v, hostWork a = .instr (decodeRequest v)) ∨ hostWork a = .chore (.access a) := by
  unfold hostWork
  split
  · split
    · exact .inl ⟨_, rfl⟩
    · exact .inr rfl
  · exact .inr rfl
  · exact .inr rfl

theorem hostAccess_session {a : HostAccess} {s t : State} (next : hostAccess a s = .next t) : t.session = s.session := by
  obtain ⟨addr, -, rfl⟩ | ⟨addr, v, -, rfl⟩ := Laws.hostAccess_next next
  · exact Laws.hostRead_session addr s
  · rw [Laws.hostWrite_keeps]

theorem step_host_session {s t : State} {a : HostAccess} (turn : nextTurn s = .host a) (next : step s = .next t) :
    t.session = s.session := by
  rw [Laws.step_host (Laws.legal_of_step next) turn] at next
  obtain ⟨v, request⟩ | access := hostWork_cases a
  · obtain ⟨u, runs, kept⟩ := exec_request_session (s := turnTaken s) (decodeRequest_space v)
    rw [request] at next
    obtain rfl := Host.Outcome.next.inj (runs.symm.trans next)
    exact kept
  · rw [access] at next
    exact hostAccess_session (s := turnTaken s) next

theorem hostWait_session (s : State) : (hostWait s).session = s.session := by
  unfold hostWait
  split <;> rfl

/-! ## What the phases of a command and of a sector transfer do to SESSION -/

@[simp] theorem continueFrame_session (sent : Nat) (s : State) : (continueFrame sent s).session = s.session := by
  by_cases more : sent < 6
  · rw [Laws.continueFrame_more more, Laws.exchangeAt_session]
  · rw [Laws.continueFrame_done more, Laws.exchangeAt_session, Laws.clearPolls_session]

@[simp] theorem checkBlockResponse_session {rest : State → State} {s : State} (kept : (rest s).session = s.session) :
    (checkBlockResponse rest s).session = s.session := by
  unfold checkBlockResponse
  split
  · rfl
  · split
    · exact kept
    · rfl

@[simp] theorem gotResponse_session (x : Byte) (s : State) : (gotResponse x s).session = s.session := by
  rw [gotResponse, Laws.exchangeAt_session, Laws.countPoll_session]

@[simp] theorem tokenMatched_session (s : State) : (tokenMatched s).session = s.session := by
  rw [tokenMatched, Laws.exchangeAt_session, Laws.setIndex_session, Laws.countPoll_session]

@[simp] theorem pollToken_session (s : State) : (pollToken s).session = s.session := by
  unfold pollToken
  split <;> rfl

@[simp] theorem tokenOther_session (s : State) : (tokenOther s).session = s.session := by
  unfold tokenOther
  split
  · exact pollToken_session _
  · rfl

@[simp] theorem nextData_session (p : Pos) (s : State) : (nextData p s).session = s.session := by
  unfold nextData
  split <;> rfl

@[simp] theorem storePartData_session (s : State) : (storePartData s).session = s.session := by
  refine (nextData_session _ _).trans ?_
  split <;> rfl

@[simp] theorem sendData_session (s : State) : (sendData s).session = s.session := by
  cases byte : Memory.read s.buf s.seq.i.toNat with
  | some b => rw [Laws.sendData_written byte, Laws.exchangeAt_session]
  | none => rw [Laws.sendData_unwritten byte, Laws.exchangeAt_session]

@[simp] theorem continueSendData_session (s : State) : (continueSendData s).session = s.session := by
  unfold continueSendData
  split
  · exact sendData_session _
  · rfl

@[simp] theorem dataResponseNotYet_session (s : State) : (dataResponseNotYet s).session = s.session := by
  unfold dataResponseNotYet
  dsimp only
  split <;> rfl

@[simp] theorem cardReady_session (s : State) : (cardReady s).session = s.session := by
  rw [cardReady, Laws.exchangeAt_session, Laws.countPoll_session]

@[simp] theorem cardBusy_session (s : State) : (cardBusy s).session = s.session := by
  unfold cardBusy
  dsimp only
  split <;> rfl

/-! ## What the steps of INIT do to SESSION (R151 to R156) -/

theorem attemptIdle_session (s : State) :
    (attemptIdle s).session = if s.att.toNat = s.cfg.idleAttempts then .failed else s.session := by
  by_cases last : s.att.toNat = s.cfg.idleAttempts
  · simp [Laws.attemptIdle_last, last]
  · simp [Laws.attemptIdle_next, last]

theorem attemptInit_session (s : State) :
    (attemptInit s).session = if s.att.toNat = s.cfg.initAttempts then .failed else s.session := by
  by_cases last : s.att.toNat = s.cfg.initAttempts
  · simp [Laws.attemptInit_last, last]
  · simp [Laws.attemptInit_next, last]

/-- Step 1 sends one more filler byte. -/
theorem continueFiller_more {s : State} (more : s.seq.j.toNat < s.cfg.powerupFillerBytes) :
    continueFiller s = exchangeAt .filler fillerByte { s with seq := { s.seq with j := s.seq.j + 1#16 } } :=
  if_pos more

/-- Step 2 begins with its first attempt. -/
theorem continueFiller_done {s : State} (done : ¬ s.seq.j.toNat < s.cfg.powerupFillerBytes) :
    continueFiller s = attemptIdle { select s with att := 0#16 } :=
  if_neg done

/-- A legal budget has a first attempt, so step 2 does not fail at its beginning. -/
theorem continueFiller_session {s : State} (legal : s.cfg.legal = true) : (continueFiller s).session = s.session := by
  by_cases more : s.seq.j.toNat < s.cfg.powerupFillerBytes
  · rw [continueFiller_more more, Laws.exchangeAt_session]
  · obtain ⟨-, ⟨attempts, -⟩, -⟩ := Laws.legal_bounds legal
    rw [continueFiller_done more]
    exact (attemptIdle_session _).trans (if_neg (Nat.ne_of_lt attempts))

/-- IDLE_OK begins step 3, which has a first attempt. -/
theorem afterIdle_session {s : State} (legal : s.cfg.legal = true) :
    (afterIdle s).session
      = if s.seq.r = s.cfg.idleOk then .idleEntered
        else if s.att.toNat = s.cfg.idleAttempts then .failed else s.session := by
  unfold afterIdle
  split
  · obtain ⟨-, -, ⟨attempts, -⟩, -⟩ := Laws.legal_bounds legal
    exact (attemptInit_session _).trans (if_neg (Nat.ne_of_lt attempts))
  · exact attemptIdle_session s

theorem afterInit_session (s : State) :
    (afterInit s).session
      = if s.seq.r = okByte then .negotiating
        else if s.att.toNat = s.cfg.initAttempts then .failed else s.session := by
  unfold afterInit
  split
  · rfl
  · exact attemptInit_session s

theorem finishInit_session (sd : Bool) (s : State) : (finishInit sd s).session = if sd then .sdCard else .mmcCard := by
  cases sd <;> rfl

theorem afterApp_session (s : State) : (afterApp s).session = if s.seq.r = okByte then s.session else .mmcCard := by
  unfold afterApp
  split
  · rfl
  · exact finishInit_session false s

/-- SESSION after SendCommand returned the response `r` to the call site `c` (R152 to R154): step 4's two commands and the loops of steps 2
and 3 decide it, and every other call site keeps it. -/
def sessionOnReturn (s : State) (c : Caller) (r : Byte) : Session :=
  match c with
  | .initIdle =>
    if r = s.cfg.idleOk then .idleEntered else if s.att.toNat = s.cfg.idleAttempts then .failed else s.session
  | .initInit => if r = okByte then .negotiating else if s.att.toNat = s.cfg.initAttempts then .failed else s.session
  | .initApp => if r = okByte then s.session else .mmcCard
  | .initOpCond => if r = okByte then .sdCard else .mmcCard
  | .sendcmd | .read | .rdpart | .write => s.session

theorem returnCommand_session {s : State} (legal : s.cfg.legal = true) :
    (returnCommand s).session = sessionOnReturn s s.seq.caller s.seq.r := by
  unfold returnCommand sessionOnReturn
  cases s.seq.caller with
  | sendcmd => dsimp only; split <;> rfl
  | initIdle => exact afterIdle_session legal
  | initInit => exact afterInit_session s
  | initApp => exact afterApp_session s
  | initOpCond => simp [finishInit_session]
  | read | rdpart | write => exact checkBlockResponse_session rfl

/-! ## The session transition relation (R159) -/

/-- In the session state its call site runs in, a return of SendCommand keeps SESSION or makes a transition of the table. -/
theorem sessionEvent_of_returning {s : State} {c : Caller} {r : Byte} (returns : returning s c r)
    (called : callerSession c s.session = true) :
    sessionOnReturn s c r = s.session ∨ sessionEvent s s.session (sessionOnReturn s c r) := by
  cases c with
  | sendcmd | read | rdpart | write => exact .inl rfl
  | initIdle =>
    have session : s.session = .poweringUp := by simpa [callerSession] using called
    by_cases idle : r = s.cfg.idleOk
    · exact .inr (by simpa [sessionOnReturn, session, idle, sessionEvent] using returns)
    · by_cases last : s.att.toNat = s.cfg.idleAttempts
      · exact .inr (by simpa [sessionOnReturn, session, idle, last, sessionEvent] using ⟨r, returns, idle⟩)
      · simp [sessionOnReturn, idle, last]
  | initInit =>
    have session : s.session = .idleEntered := by simpa [callerSession] using called
    by_cases ok : r = okByte
    · exact .inr (by simpa [sessionOnReturn, session, ok, sessionEvent] using returns)
    · by_cases last : s.att.toNat = s.cfg.initAttempts
      · exact .inr (by simpa [sessionOnReturn, session, ok, last, sessionEvent] using ⟨r, returns, ok⟩)
      · simp [sessionOnReturn, ok, last]
  | initApp =>
    have session : s.session = .negotiating := by simpa [callerSession] using called
    by_cases ok : r = okByte
    · simp [sessionOnReturn, ok]
    · exact .inr (by simpa [sessionOnReturn, session, ok, sessionEvent] using ⟨r, .inl returns, ok⟩)
  | initOpCond =>
    have session : s.session = .negotiating := by simpa [callerSession] using called
    by_cases ok : r = okByte
    · exact .inr (by simpa [sessionOnReturn, session, ok, sessionEvent] using returns)
    · exact .inr (by simpa [sessionOnReturn, session, ok, sessionEvent] using ⟨r, .inr returns, ok⟩)

/-- After the dummy exchange the latched response is returned. -/
theorem step_respDummy_session {s : State} (legal : s.cfg.legal = true) (inv : BlockInv s) (turn : nextTurn s = .sequencer)
    (pos : s.seq.pos = .respDummy) :
    ∃ t, step s = .next t ∧ (t.session = s.session ∨ sessionEvent s s.session t.session) := by
  have called : callerSession s.seq.caller s.session = true := by simpa [placeFits, pos] using inv.placed
  have returns : returning s s.seq.caller s.seq.r := ⟨rfl, .inl ⟨pos, rfl⟩⟩
  refine ⟨_, Laws.step_respDummy legal turn inv.positionCoherent pos, ?_⟩
  rw [returnCommand_session (s := turnTaken s) legal]
  exact sessionEvent_of_returning returns called

/-- At the response site only the last not-ready byte of the budget returns; any other byte makes one more exchange. -/
theorem step_respPoll_session {s : State} (legal : s.cfg.legal = true) (inv : BlockInv s) (turn : nextTurn s = .sequencer)
    (pos : s.seq.pos = .respPoll) :
    ∃ t, step s = .next t ∧ (t.session = s.session ∨ sessionEvent s s.session t.session) := by
  have called : callerSession s.seq.caller s.session = true := by simpa [placeFits, pos] using inv.placed
  have inBudget : s.seq.n.toNat < s.cfg.respPollBudget := by simpa [countersFit, pos] using inv.counters
  obtain ⟨⟨-, budget⟩, -⟩ := Laws.legal_bounds legal
  by_cases notReady : s.seq.rx = notReadyByte
  · refine ⟨_, Laws.step_respPoll_notReady legal turn inv.positionCoherent pos notReady, ?_⟩
    by_cases again : s.seq.n.toNat + 1 < s.cfg.respPollBudget
    · exact .inl (by rw [Laws.noResponse_again (s := turnTaken s) again budget]; simp)
    · have last : s.seq.n.toNat + 1 = s.cfg.respPollBudget := by omega
      have returns : returning s s.seq.caller notReadyByte := ⟨rfl, .inr ⟨pos, notReady, last, rfl⟩⟩
      have returned : (noResponse (turnTaken s)).session = sessionOnReturn s s.seq.caller notReadyByte := by
        rw [Laws.noResponse_last (s := turnTaken s) last budget, returnCommand_session]
        · rfl
        · exact legal
      rw [returned]
      exact sessionEvent_of_returning returns called
  · exact ⟨_, Laws.step_respPoll_response legal turn inv.positionCoherent pos notReady, .inl (gotResponse_session _ _)⟩

theorem step_drespPoll_session {s : State} (legal : s.cfg.legal = true) (isCoherent : coherent s = true)
    (turn : nextTurn s = .sequencer) (pos : s.seq.pos = .drespPoll) : ∃ t, step s = .next t ∧ t.session = s.session := by
  obtain ⟨-, row⟩ | ⟨-, row⟩ | ⟨-, row⟩ | ⟨-, -, -, noRow⟩ := Laws.decodeDataResponse_cases s.seq.rx
  · exact ⟨_, Laws.step_drespPoll legal turn isCoherent pos row, by simp⟩
  · exact ⟨_, Laws.step_drespPoll legal turn isCoherent pos row, by simp⟩
  · exact ⟨_, Laws.step_drespPoll legal turn isCoherent pos row, by simp⟩
  · exact ⟨_, Laws.step_drespPoll_notYet legal turn isCoherent pos noRow, dataResponseNotYet_session _⟩

/-- The sequencer's turn keeps SESSION or makes a transition of the table: only the first step of INIT and the returns of SendCommand to
INIT move it. -/
theorem step_sequencer_session {s : State} (legal : s.cfg.legal = true) (inv : BlockInv s) (turn : nextTurn s = .sequencer) :
    ∃ t, step s = .next t ∧ (t.session = s.session ∨ sessionEvent s s.session t.session) := by
  have isCoherent := inv.positionCoherent
  have placed := inv.placed
  cases pos : s.seq.pos with
  | idle => exact ⟨_, Laws.step_idle legal turn isCoherent pos, .inl rfl⟩
  | start op =>
    refine ⟨_, Laws.step_start legal turn isCoherent pos, ?_⟩
    cases op with
    | init =>
      have session : s.session = .uninitialized := by simpa [placeFits, pos] using placed
      exact .inr (by rw [session]; exact pos)
    | sendcmd | read | rdpart | write => exact .inl rfl
  | filler => exact ⟨_, Laws.step_filler legal turn isCoherent pos, .inl (continueFiller_session legal)⟩
  | frame sent => exact ⟨_, Laws.step_frame legal turn isCoherent pos, .inl (continueFrame_session sent _)⟩
  | respPoll => exact step_respPoll_session legal inv turn pos
  | respDummy => exact step_respDummy_session legal inv turn pos
  | tokenPoll =>
    by_cases token : s.seq.rx = dataStartToken
    · exact ⟨_, Laws.step_tokenPoll_token legal turn isCoherent pos token, .inl (tokenMatched_session _)⟩
    · by_cases notReady : s.seq.rx = notReadyByte
      · exact ⟨_, Laws.step_tokenPoll_notReady legal turn isCoherent pos notReady, .inl (pollToken_session _)⟩
      · exact ⟨_, Laws.step_tokenPoll_other legal turn isCoherent pos token notReady, .inl (tokenOther_session _)⟩
  | readData => exact ⟨_, Laws.step_readData legal turn isCoherent pos, .inl (nextData_session _ _)⟩
  | partData => exact ⟨_, Laws.step_partData legal turn isCoherent pos, .inl (storePartData_session _)⟩
  | crcFirst => exact ⟨_, Laws.step_crcFirst legal turn isCoherent pos, .inl rfl⟩
  | crcSecond => exact ⟨_, Laws.step_crcSecond legal turn isCoherent pos, .inl rfl⟩
  | trailer => exact ⟨_, Laws.step_trailer legal turn isCoherent pos, .inl rfl⟩
  | writeDummy => exact ⟨_, Laws.step_writeDummy legal turn isCoherent pos, .inl rfl⟩
  | writeToken => exact ⟨_, Laws.step_writeToken legal turn isCoherent pos, .inl (sendData_session _)⟩
  | writeData => exact ⟨_, Laws.step_writeData legal turn isCoherent pos, .inl (continueSendData_session _)⟩
  | drespPoll =>
    obtain ⟨t, runs, kept⟩ := step_drespPoll_session legal isCoherent turn pos
    exact ⟨t, runs, .inl kept⟩
  | busyPoll =>
    by_cases busy : s.seq.rx = busyByte
    · exact ⟨_, Laws.step_busyPoll_busy legal turn isCoherent pos busy, .inl (cardBusy_session _)⟩
    · exact ⟨_, Laws.step_busyPoll_ready legal turn isCoherent pos busy, .inl (cardReady_session _)⟩

/-- What any step does to SESSION: nothing, the reset, or a transition of the table. -/
theorem step_session {s t : State} (inv : BlockInv s) (next : step s = .next t) :
    t.session = s.session ∨ (nextTurn s = .reset ∧ t.session = .uninitialized)
      ∨ (nextTurn s = .sequencer ∧ sessionEvent s s.session t.session) := by
  have legal := Laws.legal_of_step next
  cases turn : nextTurn s with
  | host a => exact .inl (step_host_session turn next)
  | wait =>
    obtain rfl := Host.Outcome.next.inj ((Laws.step_wait legal turn).symm.trans next)
    exact .inl (hostWait_session _)
  | reset =>
    obtain rfl := Host.Outcome.next.inj ((Laws.step_reset legal turn).symm.trans next)
    exact .inr (.inl ⟨rfl, rfl⟩)
  | sequencer =>
    obtain ⟨u, runs, moved⟩ := step_sequencer_session legal inv turn
    obtain rfl := Host.Outcome.next.inj (runs.symm.trans next)
    exact moved.imp_right fun event => .inr ⟨rfl, event⟩

/-- BUSY = 1 while the position is not IDLE (R37). -/
theorem busy_of_running {s : State} (inv : BlockInv s) (running : s.seq.pos ≠ .idle) : s.busy = true := by
  have busy : s.busy = (s.seq.pos != .idle) := by simpa [coherent] using inv.positionCoherent
  rw [busy, bne_iff_ne]
  exact running

theorem not_ready_of_transient {x : Session} (transient : sessionTransient x = true) : sessionReady x = false := by
  cases x with
  | poweringUp | idleEntered | negotiating => rfl
  | uninitialized | sdCard | mmcCard | failed => cases transient

/-- The transient session states belong to INIT's call sites. -/
theorem callerOp_of_transient {c : Caller} {x : Session} (called : callerSession c x = true) (transient : sessionTransient x = true) :
    callerOp c = .init := by
  have notReady := not_ready_of_transient transient
  cases c with
  | initIdle | initInit | initApp | initOpCond => rfl
  | sendcmd => simp [callerSession, transient] at called
  | read | rdpart | write => simp [callerSession, notReady] at called

/-- The transient session states belong to INIT's positions. -/
theorem runningOp_of_transient {p : Pos} {c : Caller} {x : Session} (placed : placeFits p c x = true)
    (transient : sessionTransient x = true) : runningOp p c = some .init := by
  have notReady := not_ready_of_transient transient
  cases p with
  | idle => simp [placeFits, transient] at placed
  | filler => rfl
  | frame _ | respPoll | respDummy => exact congrArg some (callerOp_of_transient placed transient)
  | start op =>
    cases op with
    | init => rfl
    | sendcmd => simp [placeFits, transient] at placed
    | read | rdpart | write => simp [placeFits, notReady] at placed
  | tokenPoll | readData | partData | crcFirst | crcSecond | trailer | writeDummy | writeToken | writeData | drespPoll | busyPoll =>
    simp [placeFits, notReady] at placed

/-- Settles O37: by the turn, and the sequencer's turn by its position. -/
theorem sessionTransitionRelation : Obligations.SessionTransitionRelation := by
  intro s inv
  refine ⟨fun session => ?_, fun t next changed => (step_session inv next).resolve_left changed⟩
  have transient : sessionTransient s.session = true := by
    obtain session | session | session := session <;> simp [session, sessionTransient]
  have init := runningOp_of_transient inv.placed transient
  refine ⟨busy_of_running inv fun idle => ?_, inv.lastopRuns .init init⟩
  rw [idle] at init
  cases init

/-! ## Session properties (R157) -/

/-- No row of the table leaves Failed, SDCard or MMCCard. -/
theorem not_sessionEvent_of_terminal {s : State} {x y : Session} (terminal : x = .failed ∨ x = .sdCard ∨ x = .mmcCard) :
    ¬ sessionEvent s x y := by
  obtain rfl | rfl | rfl := terminal <;> exact id

/-- No row of the table but the reset leads to Uninitialized. -/
theorem not_sessionEvent_uninitialized {s : State} {x : Session} : ¬ sessionEvent s x .uninitialized := by
  cases x <;> exact id

theorem sessionReady_eq_false {x : Session} (notSd : x ≠ .sdCard) (notMmc : x ≠ .mmcCard) : sessionReady x = false := by
  cases x with
  | sdCard => exact absurd rfl notSd
  | mmcCard => exact absurd rfl notMmc
  | uninitialized | poweringUp | idleEntered | negotiating | failed => rfl

/-- Settles O23: the refusals by the first check of each row, the terminal states by the transition relation. -/
theorem sessionGatesRequests : Obligations.SessionGatesRequests := by
  intro s ignored inv
  refine ⟨fun rest begun => ?_, fun rest notSd notMmc => ?_, fun t next terminal => ?_, fun t next fresh => ?_⟩
  · exact ⟨_, rfl, refusedWith_request inv rest (if_neg begun)⟩
  · have notReady : ∀ v, ¬ sessionReady (takeUp v s).session = true := by
      simp [sessionReady_eq_false notSd notMmc]
    exact ⟨⟨_, rfl, refusedWith_request inv rest (if_neg (notReady _))⟩,
      ⟨_, rfl, refusedWith_request inv rest (if_neg (notReady _))⟩,
      ⟨_, rfl, refusedWith_request inv rest (if_neg (notReady _))⟩⟩
  · obtain kept | reset | ⟨-, event⟩ := step_session inv next
    · exact .inl kept
    · exact .inr reset
    · exact absurd event (not_sessionEvent_of_terminal terminal)
  · obtain kept | ⟨reset, -⟩ | ⟨-, event⟩ := step_session inv next
    · exact .inl (kept.symm.trans fresh)
    · exact .inr reset
    · rw [fresh] at event
      exact absurd event not_sessionEvent_uninitialized

/-! ## Step 1 of INIT (R151) -/

/-- The filler counter stays inside its 16 bits. -/
theorem continueFiller_counts {s : State} (legal : s.cfg.legal = true) (more : s.seq.j.toNat < s.cfg.powerupFillerBytes) :
    (continueFiller s).seq.j.toNat = s.seq.j.toNat + 1 := by
  obtain ⟨-, -, -, -, -, -, ⟨-, fillers⟩, -⟩ := Laws.legal_bounds legal
  rw [continueFiller_more more]
  exact Laws.count_toNat more fillers

/-- `t` is `s` after filler exchanges that received `rxs`: they and no other bus event, and only the bus, the card's answers and draws, the
filler counter and the received byte have moved. -/
structure FillerSent (rxs : List Byte) (s t : State) : Prop where
  trace : t.trace = s.trace ++ rxs.map (BusEvent.x 0xFF#8)
  counted : t.seq.j.toNat = s.seq.j.toNat + rxs.length
  kept : t = { s with trace := t.trace, card := t.card, draws := t.draws,
                      seq := { s.seq with pos := .filler, j := t.seq.j, rx := t.seq.rx } }

theorem FillerSent.nil {s : State} (pos : s.seq.pos = .filler) : FillerSent [] s s where
  trace := (List.append_nil _).symm
  counted := rfl
  kept := by rw [← pos]

/-- One more filler byte before the others. -/
theorem FillerSent.cons {rxs : List Byte} {s t : State} (legal : s.cfg.legal = true)
    (more : s.seq.j.toNat < s.cfg.powerupFillerBytes) (rest : FillerSent rxs (continueFiller s) t) :
    FillerSent (s.answer fillerByte :: rxs) s t := by
  obtain ⟨trace, counted, kept⟩ := rest
  have sends := continueFiller_more more
  refine ⟨?_, ?_, ?_⟩
  · rw [trace, sends, Laws.exchangeAt_trace, List.append_assoc]
    rfl
  · rw [counted, continueFiller_counts legal more, List.length_cons]
    omega
  · rw [sends] at kept
    exact kept

/-- After a filler byte the sequencer alone sends the rest of them, one a step. -/
theorem run_filler {left : Nat} {s : State} (legal : s.cfg.legal = true) (busy : s.busy = true) (alone : s.agenda = [])
    (pos : s.seq.pos = .filler) (total : s.seq.j.toNat + left = s.cfg.powerupFillerBytes) :
    ∃ t rxs, core.run left s = .next t ∧ rxs.length = left ∧ FillerSent rxs s t := by
  induction left generalizing s with
  | zero => exact ⟨s, [], rfl, rfl, .nil pos⟩
  | succ left ih =>
    have more : s.seq.j.toNat < s.cfg.powerupFillerBytes := by omega
    have first : step s = .next (continueFiller s) := by
      rw [Laws.step_filler legal (by simp [nextTurn, alone]) (by simp [coherent, busy, pos]) pos, turnTaken_of_agenda_nil alone]
    have counts := continueFiller_counts legal more
    have sends := continueFiller_more more
    have sameBudget : (continueFiller s).cfg = s.cfg := by rw [sends, Laws.exchangeAt_cfg]
    obtain ⟨t, rxs, run, length, rest⟩ := ih (s := continueFiller s) (by rwa [sameBudget]) (by simpa [sends] using busy)
      (by simpa [sends] using alone) (by simp [sends])
      (by rw [counts, sameBudget]; omega)
    exact ⟨t, s.answer fillerByte :: rxs, (run_succ_of_step first left).trans run, congrArg (· + 1) length, rest.cons legal more⟩

/-- Settles O32: the first filler byte with the step that begins INIT, the rest by induction on the bytes left. -/
theorem powerUpSendsFiller : Obligations.PowerUpSendsFiller := by
  intro s legal inv alone pos
  have busy : s.busy = true := busy_of_running inv (by simp [pos])
  have first : step s = .next (beginInit s) := by
    rw [Laws.step_start legal (by simp [nextTurn, alone]) inv.positionCoherent pos, turnTaken_of_agenda_nil alone]
    rfl
  obtain ⟨-, -, -, -, -, -, ⟨tenOrMore, -⟩, -⟩ := Laws.legal_bounds legal
  obtain ⟨left, fillers⟩ := Nat.exists_eq_add_of_le' (Nat.le_trans (by decide : 1 ≤ 10) tenOrMore)
  obtain ⟨t, rxs, run, length, trace, counted, kept⟩ :=
    run_filler (s := beginInit s) (left := left) legal busy alone rfl ((Nat.add_comm 1 left).trans fillers.symm)
  refine ⟨t, (beginInit s).seq.rx :: rxs, ?_, ?_, ?_, ?_⟩
  · rw [fillers]
    exact (run_succ_of_step first left).trans run
  · rw [List.length_cons, length, fillers]
  · rw [trace]
    simp [beginInit, fillerByte]
  · have total : t.seq.j.toNat = s.cfg.powerupFillerBytes := by
      rw [counted, length, fillers, Nat.add_comm]
      rfl
    rw [kept]
    exact ⟨rfl, rfl, rfl, busy, rfl, total, ⟨rfl, rfl, rfl, rfl, rfl, rfl, rfl⟩, rfl, rfl, rfl⟩

end Sys2Proof.Proofs
end

section
/-! The sector read: the refusal of a window that is too long (42_block_read.md R186), and BUF under a READ or RDPART that fails (R188). -/

namespace Sys2Proof.Proofs

open Sys2Proof.Machine

/-! ## The window check (R186) -/

/-- Settles O24: a ready session passes the first check of the row and the window fails the second. -/
theorem windowTooLongFailsParamError : Obligations.WindowTooLongFailsParamError := by
  intro s ignored inv rest session long
  have ready : sessionReady s.session = true := by
    obtain session | session := session <;> simp [session, sessionReady]
  exact ⟨_, rfl, refusedWith_request inv rest ((if_pos ready).trans (if_neg (Nat.not_le.mpr long)))⟩

/-! ## How a step of the sequencer ends (R12, R136) -/

/-- The statements that lead from `s` to `u` leave BUF, BUSY, FAIL, ERR and the waiting turns alone. -/
structure BufAndFlagsKept (s u : State) : Prop where
  buf : u.buf = s.buf := by rfl
  busy : u.busy = s.busy := by rfl
  fail : u.fail = s.fail := by rfl
  err : u.err = s.err := by rfl
  agenda : u.agenda = s.agenda := by rfl

theorem BufAndFlagsKept.trans {s u t : State} (first : BufAndFlagsKept s u) (second : BufAndFlagsKept u t) : BufAndFlagsKept s t where
  buf := second.buf.trans first.buf
  busy := second.busy.trans first.busy
  fail := second.fail.trans first.fail
  err := second.err.trans first.err
  agenda := second.agenda.trans first.agenda

/-- A step from `s` ends in `t`: after statements that keep BUF and the flags it makes one exchange, succeeds, or fails, and before Fail there is
nothing on the bus. -/
inductive StepEnds (s : State) : State → Prop where
  | exchange {p : Pos} {tx : Byte} {u : State} (kept : BufAndFlagsKept s u) (running : p ≠ .idle := by nofun) :
      StepEnds s (exchangeAt p tx u)
  | succeeds {u : State} (kept : BufAndFlagsKept s u) : StepEnds s (succeed u)
  | fails {code : ErrCode} {u : State} (kept : BufAndFlagsKept s u) (sel : u.sel = s.sel := by rfl)
      (trace : u.trace = s.trace := by rfl) : StepEnds s (failWith code u)

/-- Statements that keep BUF and the flags and put nothing on the bus may stand before a step's end: a poll's counter, or what a failing check
records. -/
theorem StepEnds.after {s u t : State} (ends : StepEnds u t) (kept : BufAndFlagsKept s u) (sel : u.sel = s.sel := by rfl)
    (trace : u.trace = s.trace := by rfl) : StepEnds s t := by
  cases ends with
  | exchange more running => exact .exchange (kept.trans more) running
  | succeeds more => exact .succeeds (kept.trans more)
  | fails more moreSel moreTrace => exact .fails (kept.trans more) (moreSel.trans sel) (moreTrace.trans trace)

theorem StepEnds.buf {s t : State} (ends : StepEnds s t) : t.buf = s.buf := by
  cases ends with
  | exchange kept => exact kept.buf
  | succeeds kept => exact kept.buf
  | fails kept => exact kept.buf

theorem StepEnds.agenda {s t : State} (ends : StepEnds s t) : t.agenda = s.agenda := by
  cases ends with
  | exchange kept => exact kept.agenda
  | succeeds kept => exact kept.agenda
  | fails kept => exact kept.agenda

/-- FAIL is set by Fail alone, whose one event is the `DESEL`. -/
theorem StepEnds.trace_of_fail {s t : State} (ends : StepEnds s t) (clear : s.fail = false) (failed : t.fail = true) :
    t.trace = deselectedTrace s := by
  cases ends with
  | exchange kept => simp [kept.fail, clear] at failed
  | succeeds => cases failed
  | fails kept sel trace => simp only [Laws.failWith_deselectedTrace, deselectedTrace, sel, trace]

/-- The operation runs on with FAIL as it was, or has ended. -/
theorem StepEnds.running_or_idle {s t : State} (ends : StepEnds s t) :
    (t.busy = s.busy ∧ t.fail = s.fail ∧ t.err = s.err ∧ t.seq.pos ≠ .idle) ∨ (t.busy = false ∧ t.seq.pos = .idle) := by
  cases ends with
  | exchange kept running => exact .inl ⟨kept.busy, kept.fail, kept.err, running⟩
  | succeeds => exact .inr ⟨rfl, rfl⟩
  | fails => exact .inr ⟨rfl, rfl⟩

/-! ## How the statements of each operation end -/

theorem continueFrame_ends (sent : Nat) (s : State) : StepEnds s (continueFrame sent s) := by
  by_cases more : sent < 6
  · rw [Laws.continueFrame_more more]
    exact .exchange {}
  · rw [Laws.continueFrame_done more]
    exact .exchange {}

theorem beginOperation_ends (op : Op) (s : State) : StepEnds s (beginOperation op s) := by
  cases op with
  | init | sendcmd | read | rdpart | write => exact .exchange {}

theorem attemptIdle_ends (s : State) : StepEnds s (attemptIdle s) := by
  by_cases last : s.att.toNat = s.cfg.idleAttempts
  · rw [Laws.attemptIdle_last last]
    exact .fails {}
  · rw [Laws.attemptIdle_next last]
    exact .exchange {}

theorem attemptInit_ends (s : State) : StepEnds s (attemptInit s) := by
  by_cases last : s.att.toNat = s.cfg.initAttempts
  · rw [Laws.attemptInit_last last]
    exact .fails {}
  · rw [Laws.attemptInit_next last]
    exact .exchange {}

/-- Step 2 of INIT selects the card before its first attempt, so it must not fail there: a legal budget has a first attempt. -/
theorem continueFiller_ends {s : State} (legal : s.cfg.legal = true) : StepEnds s (continueFiller s) := by
  by_cases more : s.seq.j.toNat < s.cfg.powerupFillerBytes
  · rw [continueFiller_more more]
    exact .exchange {}
  · obtain ⟨-, ⟨attempts, -⟩, -⟩ := Laws.legal_bounds legal
    rw [continueFiller_done more, Laws.attemptIdle_next (s := { select s with att := 0#16 }) (Nat.ne_of_lt attempts)]
    exact .exchange {}

theorem afterIdle_ends (s : State) : StepEnds s (afterIdle s) := by
  unfold afterIdle
  split
  · exact (attemptInit_ends _).after {}
  · exact attemptIdle_ends s

theorem afterInit_ends (s : State) : StepEnds s (afterInit s) := by
  unfold afterInit
  split
  · exact .exchange {}
  · exact attemptInit_ends s

theorem finishInit_ends (sd : Bool) (s : State) : StepEnds s (finishInit sd s) := by
  cases sd with
  | true => exact .succeeds {}
  | false =>
    cases fast : s.cfg.mmcFastClock with
    | true => simpa [finishInit, fast] using .succeeds {}
    | false => simpa [finishInit, fast] using .succeeds {}

theorem afterApp_ends (s : State) : StepEnds s (afterApp s) := by
  unfold afterApp
  split
  · exact .exchange {}
  · exact finishInit_ends false s

theorem checkBlockResponse_ends {rest : State → State} {s : State} (ends : StepEnds s (rest s)) :
    StepEnds s (checkBlockResponse rest s) := by
  unfold checkBlockResponse
  split
  · exact .fails {}
  · split
    · exact ends
    · exact .fails {}

theorem returnCommand_ends (s : State) : StepEnds s (returnCommand s) := by
  unfold returnCommand
  cases s.seq.caller with
  | sendcmd =>
    dsimp only
    split
    · exact .fails {}
    · exact .succeeds {}
  | initIdle => exact afterIdle_ends s
  | initInit => exact afterInit_ends s
  | initApp => exact afterApp_ends s
  | initOpCond => exact finishInit_ends _ s
  | read | rdpart | write => exact checkBlockResponse_ends (.exchange {})

theorem noResponse_ends (s : State) : StepEnds s (noResponse s) := by
  unfold noResponse
  dsimp only
  split
  · exact .exchange {}
  · exact (returnCommand_ends _).after {}

theorem tokenMatched_ends (s : State) : StepEnds s (tokenMatched s) := by
  have running : dataPos s.seq.caller ≠ .idle := by cases s.seq.caller <;> nofun
  exact .exchange {} running

theorem pollToken_ends (s : State) : StepEnds s (pollToken s) := by
  unfold pollToken
  split
  · exact .fails {}
  · exact .exchange {}

theorem tokenOther_ends (s : State) : StepEnds s (tokenOther s) := by
  unfold tokenOther
  split
  · exact (pollToken_ends _).after {}
  · exact .fails {}

theorem sendData_ends (s : State) : StepEnds s (sendData s) := by
  cases byte : Memory.read s.buf s.seq.i.toNat with
  | some b =>
    rw [Laws.sendData_written byte]
    exact .exchange {}
  | none =>
    rw [Laws.sendData_unwritten byte]
    exact .exchange {}

theorem continueSendData_ends (s : State) : StepEnds s (continueSendData s) := by
  unfold continueSendData
  split
  · exact (sendData_ends _).after {}
  · exact .exchange {}

theorem dataResponseNotYet_ends (s : State) : StepEnds s (dataResponseNotYet s) := by
  unfold dataResponseNotYet
  dsimp only
  split
  · exact .fails {}
  · exact .exchange {}

theorem cardBusy_ends (s : State) : StepEnds s (cardBusy s) := by
  unfold cardBusy
  dsimp only
  split
  · exact .fails {}
  · exact .exchange {}

/-! ## The steps that store no read data -/

theorem step_drespPoll_ends {s : State} (legal : s.cfg.legal = true) (isCoherent : coherent s = true)
    (turn : nextTurn s = .sequencer) (pos : s.seq.pos = .drespPoll) : ∃ t, step s = .next t ∧ StepEnds (turnTaken s) t := by
  obtain ⟨-, row⟩ | ⟨-, row⟩ | ⟨-, row⟩ | ⟨-, -, -, noRow⟩ := Laws.decodeDataResponse_cases s.seq.rx
  · exact ⟨_, Laws.step_drespPoll legal turn isCoherent pos row, .exchange {}⟩
  · exact ⟨_, Laws.step_drespPoll legal turn isCoherent pos row, .fails {}⟩
  · exact ⟨_, Laws.step_drespPoll legal turn isCoherent pos row, .fails {}⟩
  · exact ⟨_, Laws.step_drespPoll_notYet legal turn isCoherent pos noRow, dataResponseNotYet_ends _⟩

/-- Every step of a running operation but the two that store read data. -/
theorem step_sequencer_ends {s : State} (legal : s.cfg.legal = true) (isCoherent : coherent s = true) (turn : nextTurn s = .sequencer)
    (running : s.seq.pos ≠ .idle) (notRead : s.seq.pos ≠ .readData) (notPart : s.seq.pos ≠ .partData) :
    ∃ t, step s = .next t ∧ StepEnds (turnTaken s) t := by
  cases pos : s.seq.pos with
  | idle => exact absurd pos running
  | readData => exact absurd pos notRead
  | partData => exact absurd pos notPart
  | start op => exact ⟨_, Laws.step_start legal turn isCoherent pos, beginOperation_ends op _⟩
  | filler => exact ⟨_, Laws.step_filler legal turn isCoherent pos, continueFiller_ends legal⟩
  | frame sent => exact ⟨_, Laws.step_frame legal turn isCoherent pos, continueFrame_ends sent _⟩
  | respPoll =>
    by_cases notReady : s.seq.rx = notReadyByte
    · exact ⟨_, Laws.step_respPoll_notReady legal turn isCoherent pos notReady, noResponse_ends _⟩
    · exact ⟨_, Laws.step_respPoll_response legal turn isCoherent pos notReady, .exchange {}⟩
  | respDummy => exact ⟨_, Laws.step_respDummy legal turn isCoherent pos, returnCommand_ends _⟩
  | tokenPoll =>
    by_cases token : s.seq.rx = dataStartToken
    · exact ⟨_, Laws.step_tokenPoll_token legal turn isCoherent pos token, tokenMatched_ends _⟩
    · by_cases notReady : s.seq.rx = notReadyByte
      · exact ⟨_, Laws.step_tokenPoll_notReady legal turn isCoherent pos notReady, (pollToken_ends _).after {}⟩
      · exact ⟨_, Laws.step_tokenPoll_other legal turn isCoherent pos token notReady, tokenOther_ends _⟩
  | crcFirst => exact ⟨_, Laws.step_crcFirst legal turn isCoherent pos, .exchange {}⟩
  | crcSecond => exact ⟨_, Laws.step_crcSecond legal turn isCoherent pos, .exchange {}⟩
  | trailer => exact ⟨_, Laws.step_trailer legal turn isCoherent pos, .succeeds {}⟩
  | writeDummy => exact ⟨_, Laws.step_writeDummy legal turn isCoherent pos, .exchange {}⟩
  | writeToken => exact ⟨_, Laws.step_writeToken legal turn isCoherent pos, (sendData_ends _).after {}⟩
  | writeData => exact ⟨_, Laws.step_writeData legal turn isCoherent pos, continueSendData_ends _⟩
  | drespPoll => exact step_drespPoll_ends legal isCoherent turn pos
  | busyPoll =>
    by_cases busy : s.seq.rx = busyByte
    · exact ⟨_, Laws.step_busyPoll_busy legal turn isCoherent pos busy, cardBusy_ends _⟩
    · exact ⟨_, Laws.step_busyPoll_ready legal turn isCoherent pos busy, .exchange {}⟩

/-! ## From the first data exchange on (R182 to R184, R188) -/

/-- The positions after a data, checksum or filler exchange. -/
def dataPhase : List Pos := [.readData, .partData, .crcFirst, .crcSecond, .trailer]

theorem not_stores_of_not_mem_dataPhase {p : Pos} (outside : p ∉ dataPhase) : p ≠ .readData ∧ p ≠ .partData := by
  constructor <;> rintro rfl <;> simp [dataPhase] at outside

/-- An operation runs and nothing has failed. -/
structure RunsCleanly (s : State) : Prop where
  busy : s.busy = true
  fail : s.fail = false
  err : s.err = .none

/-- The operation has not failed, and stands in the data phase or has succeeded. -/
def inDataOrDone (t : State) : Prop :=
  t.fail = false ∧ t.err = .none
    ∧ ((t.busy = true ∧ t.seq.pos ∈ dataPhase) ∨ (t.busy = false ∧ t.done = true ∧ t.seq.pos = .idle))

theorem exchangeAt_inDataOrDone {p : Pos} (tx : Byte) {s : State} (clean : RunsCleanly s) (stays : p ∈ dataPhase) :
    inDataOrDone (exchangeAt p tx s) :=
  ⟨clean.fail, clean.err, .inl ⟨clean.busy, stays⟩⟩

/-- After data byte i comes the next one or the first checksum byte. -/
theorem nextData_inDataOrDone {p : Pos} {s : State} (clean : RunsCleanly s) (stays : p ∈ dataPhase) : inDataOrDone (nextData p s) := by
  by_cases more : s.seq.i.toNat < 511
  · rw [Laws.nextData_more more]
    exact exchangeAt_inDataOrDone _ ⟨clean.busy, clean.fail, clean.err⟩ stays
  · rw [Laws.nextData_done more]
    exact exchangeAt_inDataOrDone _ clean (by simp [dataPhase])

theorem nextData_agenda (p : Pos) (s : State) : (nextData p s).agenda = s.agenda := by
  unfold nextData
  split <;> rfl

theorem storeReadData_inDataOrDone {s : State} (clean : RunsCleanly s) : inDataOrDone (storeReadData s) :=
  nextData_inDataOrDone ⟨clean.busy, clean.fail, clean.err⟩ (by simp [dataPhase])

/-- Kept or skipped, the byte of an RDPART does not change the flags. -/
theorem storePartData_inDataOrDone {s : State} (clean : RunsCleanly s) : inDataOrDone (storePartData s) := by
  refine nextData_inDataOrDone ?_ (by simp [dataPhase])
  split
  · exact ⟨clean.busy, clean.fail, clean.err⟩
  · exact clean

theorem storePartData_agenda (s : State) : (storePartData s).agenda = s.agenda := by
  refine (nextData_agenda _ _).trans ?_
  split <;> rfl

theorem step_dataPhase {s : State} (legal : s.cfg.legal = true) (isCoherent : coherent s = true) (turn : nextTurn s = .sequencer)
    (clean : RunsCleanly s) (pos : s.seq.pos ∈ dataPhase) :
    ∃ t, step s = .next t ∧ t.agenda = s.agenda.tail ∧ inDataOrDone t := by
  have taken : RunsCleanly (turnTaken s) := ⟨clean.busy, clean.fail, clean.err⟩
  simp only [dataPhase, List.mem_cons, List.not_mem_nil, or_false] at pos
  obtain pos | pos | pos | pos | pos := pos
  · exact ⟨_, Laws.step_readData legal turn isCoherent pos, nextData_agenda _ _, storeReadData_inDataOrDone taken⟩
  · exact ⟨_, Laws.step_partData legal turn isCoherent pos, storePartData_agenda _, storePartData_inDataOrDone taken⟩
  · exact ⟨_, Laws.step_crcFirst legal turn isCoherent pos, rfl, exchangeAt_inDataOrDone _ taken (by simp [dataPhase])⟩
  · exact ⟨_, Laws.step_crcSecond legal turn isCoherent pos, rfl, exchangeAt_inDataOrDone _ taken (by simp [dataPhase])⟩
  · exact ⟨_, Laws.step_trailer legal turn isCoherent pos, rfl, rfl, rfl, .inr ⟨rfl, rfl, rfl⟩⟩

/-- Outside the data phase a step that fails keeps BUF and puts nothing on the bus but the `DESEL`; inside it no step fails. -/
theorem step_sequencer_of_fail {s t : State} (isCoherent : coherent s = true) (turn : nextTurn s = .sequencer) (clean : RunsCleanly s)
    (running : s.seq.pos ≠ .idle) (next : step s = .next t) (failed : t.fail = true) :
    t.buf = s.buf ∧ t.trace = deselectedTrace s := by
  have legal := Laws.legal_of_step next
  by_cases inData : s.seq.pos ∈ dataPhase
  · obtain ⟨u, runs, -, clear, -⟩ := step_dataPhase legal isCoherent turn clean inData
    obtain rfl := Host.Outcome.next.inj (runs.symm.trans next)
    simp [clear] at failed
  · obtain ⟨notRead, notPart⟩ := not_stores_of_not_mem_dataPhase inData
    obtain ⟨u, runs, ends⟩ := step_sequencer_ends legal isCoherent turn running notRead notPart
    obtain rfl := Host.Outcome.next.inj (runs.symm.trans next)
    exact ⟨ends.buf, ends.trace_of_fail clean.fail failed⟩

/-- Of the sequencer's steps only the two that store read data write BUF. -/
theorem step_sequencer_of_buf_changed {s t : State} (isCoherent : coherent s = true) (turn : nextTurn s = .sequencer)
    (running : s.seq.pos ≠ .idle) (next : step s = .next t) (changed : t.buf ≠ s.buf) :
    s.seq.pos = .readData ∨ s.seq.pos = .partData := by
  by_contra stores
  obtain ⟨notRead, notPart⟩ := not_or.mp stores
  obtain ⟨u, runs, ends⟩ := step_sequencer_ends (Laws.legal_of_step next) isCoherent turn running notRead notPart
  obtain rfl := Host.Outcome.next.inj (runs.symm.trans next)
  exact changed ends.buf

/-! ## A READ or RDPART while only the sequencer moves -/

theorem runsCleanly_of_inv {s : State} (inv : BlockInv s) (busy : s.busy = true) : RunsCleanly s := by
  have clear : s.fail = false := (inv.busyNotDone busy).2
  have noErr : ¬ s.err ≠ .none := inv.errNamed.not.mp (by simp [clear])
  exact ⟨busy, clear, not_not.mp noErr⟩

theorem busy_iff_of_coherent {s : State} (isCoherent : coherent s = true) : s.busy = true ↔ s.seq.pos ≠ .idle := by
  have busy : s.busy = (s.seq.pos != .idle) := by simpa [coherent] using isCoherent
  rw [busy, bne_iff_ne]

/-- While only the sequencer moves, BUF is still `b`, or data is being read, or the read has succeeded. -/
structure BufKeptOrRead (b : List Host.Cell) (s : State) : Prop where
  alone : s.agenda = []
  isCoherent : coherent s = true
  clean : s.busy = true → RunsCleanly s
  buf : s.buf = b ∨ (s.fail = false ∧ (s.seq.pos ∈ dataPhase ∨ s.seq.pos = .idle))

theorem BufKeptOrRead.buf_of_fail {b : List Host.Cell} {s : State} (kept : BufKeptOrRead b s) (failed : s.fail = true) : s.buf = b :=
  kept.buf.resolve_right fun ⟨clear, _⟩ => by simp [clear] at failed

theorem BufKeptOrRead.of_inDataOrDone {b : List Host.Cell} {t : State} (alone : t.agenda = []) (inData : inDataOrDone t) :
    BufKeptOrRead b t := by
  obtain ⟨clear, noErr, ⟨busy, pos⟩ | ⟨rest, -, pos⟩⟩ := inData
  · have running : t.seq.pos ≠ .idle := by
      intro idle
      simp [idle, dataPhase] at pos
    exact ⟨alone, by simp [coherent, busy, running], fun _ => ⟨busy, clear, noErr⟩, .inr ⟨clear, .inl pos⟩⟩
  · exact ⟨alone, by simp [coherent, rest, pos], by simp [rest], .inr ⟨clear, .inr pos⟩⟩

theorem BufKeptOrRead.of_stepEnds {b : List Host.Cell} {s t : State} (alone : s.agenda = []) (clean : RunsCleanly s) (buf : s.buf = b)
    (ends : StepEnds s t) : BufKeptOrRead b t := by
  have keptBuf := ends.buf.trans buf
  have stillAlone := ends.agenda.trans alone
  obtain ⟨busy, fail, err, running⟩ | ⟨rest, idle⟩ := ends.running_or_idle
  · have stillBusy := busy.trans clean.busy
    exact ⟨stillAlone, by simp [coherent, stillBusy, running], fun _ => ⟨stillBusy, fail.trans clean.fail, err.trans clean.err⟩,
      .inl keptBuf⟩
  · exact ⟨stillAlone, by simp [coherent, rest, idle], by simp [rest], .inl keptBuf⟩

/-- Only the data phase, which does not fail any more, changes BUF, and at rest nothing moves. -/
theorem step_bufKeptOrRead {b : List Host.Cell} {s t : State} (kept : BufKeptOrRead b s) (next : step s = .next t) :
    BufKeptOrRead b t := by
  obtain ⟨alone, isCoherent, clean, buf⟩ := kept
  have legal := Laws.legal_of_step next
  have turn : nextTurn s = .sequencer := by simp [nextTurn, alone]
  have sameState := turnTaken_of_agenda_nil alone
  by_cases idle : s.seq.pos = .idle
  · have rests := Laws.step_idle legal turn isCoherent idle
    obtain rfl : s = t := Host.Outcome.next.inj ((sameState ▸ rests).symm.trans next)
    exact ⟨alone, isCoherent, clean, buf⟩
  · have running := clean ((busy_iff_of_coherent isCoherent).mpr idle)
    by_cases inData : s.seq.pos ∈ dataPhase
    · obtain ⟨u, runs, agenda, inDataOrDone⟩ := step_dataPhase legal isCoherent turn running inData
      obtain rfl := Host.Outcome.next.inj (runs.symm.trans next)
      exact .of_inDataOrDone (by simp [agenda, alone]) inDataOrDone
    · have bufKept : s.buf = b := buf.resolve_right fun ⟨_, pos⟩ => pos.elim inData idle
      obtain ⟨notRead, notPart⟩ := not_stores_of_not_mem_dataPhase inData
      obtain ⟨u, runs, ends⟩ := step_sequencer_ends legal isCoherent turn idle notRead notPart
      obtain rfl := Host.Outcome.next.inj (runs.symm.trans next)
      rw [sameState] at ends
      exact .of_stepEnds alone running bufKept ends

/-- What every step keeps holds after any number of them. -/
theorem run_keeps {P : State → Prop} (keeps : ∀ {s t : State}, P s → step s = .next t → P t) {k : Nat} {s t : State} (holds : P s)
    (run : core.run k s = .next t) : P t := by
  induction k generalizing s with
  | zero =>
    obtain rfl := Host.Outcome.next.inj run
    exact holds
  | succ k ih =>
    cases first : step s with
    | next u => exact ih (keeps holds first) ((run_succ_of_step first k).symm.trans run)
    | fault r => simp [Host.Core.run, core, first] at run
    | refused r => simp [Host.Core.run, core, first] at run

/-! ## The other turns while an operation runs (20_memory.md R69) -/

/-- While BUSY = 1 the host's turn and its WAIT leave everything but the turns, what the host has read and the draws. -/
theorem step_busy_host {s t : State} (busy : s.busy = true) (notSequencer : nextTurn s ≠ .sequencer) (notReset : nextTurn s ≠ .reset)
    (next : step s = .next t) : t = { s with agenda := t.agenda, reads := t.reads, draws := t.draws } := by
  have legal := Laws.legal_of_step next
  cases turn : nextTurn s with
  | sequencer => exact absurd turn notSequencer
  | reset => exact absurd turn notReset
  | wait =>
    obtain rfl := Host.Outcome.next.inj ((Laws.step_wait legal turn).symm.trans next)
    unfold hostWait
    dsimp only
    split <;> rfl
  | host a =>
    rw [Laws.step_host legal turn] at next
    obtain ⟨v, request⟩ | access := hostWork_cases a
    · rw [request] at next
      obtain rfl := Host.Outcome.next.inj ((exec_request_of_busy (s := turnTaken s) (decodeRequest_space v) busy).symm.trans next)
      rfl
    · rw [access] at next
      obtain ⟨addr, -, rfl⟩ | ⟨addr, v, -, rfl⟩ := Laws.hostAccess_next (s := turnTaken s) next
      · rfl
      · rw [hostWrite_of_busy (s := turnTaken s) addr v busy]
        rfl

/-- Settles O43: a failed read by the invariant of its run, and a single step by whose turn it is. -/
theorem failedReadKeepsBuf : Obligations.FailedReadKeepsBuf := by
  refine ⟨fun s t k inv alone _ run failed => ?_, fun s t inv busy notReset next => ?_⟩
  · have kept : BufKeptOrRead s.buf s := ⟨alone, inv.positionCoherent, runsCleanly_of_inv inv, .inl rfl⟩
    exact (run_keeps step_bufKeptOrRead kept run).buf_of_fail failed
  · have clean := runsCleanly_of_inv inv busy
    by_cases turn : nextTurn s = .sequencer
    · have running := (busy_iff_of_coherent inv.positionCoherent).mp busy
      refine ⟨fun changed => ⟨turn, ?_⟩, fun inData => ?_, step_sequencer_of_fail inv.positionCoherent turn clean running next⟩
      · exact step_sequencer_of_buf_changed inv.positionCoherent turn running next changed
      · obtain ⟨u, runs, -, inDataOrDone⟩ := step_dataPhase (Laws.legal_of_step next) inv.positionCoherent turn clean inData
        obtain rfl := Host.Outcome.next.inj (runs.symm.trans next)
        exact inDataOrDone
    · rw [step_busy_host busy turn notReset next]
      exact ⟨fun changed => absurd rfl changed, fun inData => ⟨clean.fail, clean.err, .inl ⟨busy, inData⟩⟩,
        fun failed => absurd failed (by simp [clean.fail])⟩

end Sys2Proof.Proofs
end

section
/-! Reset: the block's state after it, and that one step gives it from any state (70_reset_and_hazards.md R280). -/

namespace Sys2Proof.Proofs

open Sys2Proof.Machine

/-! ## The registers and the memory after reset (10_state.md R24, R34, R38) -/

/-- No bit of STATUS is set: each of R24's flags is down. -/
@[simp] theorem resetBlock_statusByte (s : State) : statusByte (resetBlock s) = 0x00#8 := by
  simp [statusByte]

/-- An unlisted byte is unspecified, so in the empty memory every byte is. -/
@[simp] theorem memory_read_nil (k : Nat) : Memory.read [] k = none := rfl

@[simp] theorem sequencerReset_pos : Sequencer.reset.pos = .idle := rfl
@[simp] theorem sequencerReset_n : Sequencer.reset.n = 0#16 := rfl
@[simp] theorem sequencerReset_i : Sequencer.reset.i = 0#10 := rfl
@[simp] theorem sequencerReset_r : Sequencer.reset.r = 0x00#8 := rfl
@[simp] theorem sequencerReset_timedout : Sequencer.reset.timedout = false := rfl

/-! ## The step of a reset -/

/-- Settles O14: the step of the reset turn ends in `resetBlock`, whose fields are the reset values. -/
theorem resetFromAnyState : Obligations.ResetFromAnyState := by
  intro s legal turn
  have next : step s = .next (resetBlock (turnTaken s)) := Laws.step_reset legal turn
  exact ⟨resetBlock (turnTaken s), next, by simp⟩

end Sys2Proof.Proofs
end

section
/-! Decoding and encoding: the decoder of each encoding space undoes the encoder (30_encoding.md R80 to R95). -/

namespace Sys2Proof.Proofs

/-! ## Request bytes (R81 to R84) -/

theorem requestByte_ignored (ignored : BitVec 5) (op : BitVec 3) : (requestByte ignored op).extractLsb' 3 5 = ignored :=
  (BitVec.extractLsb'_append_eq_of_le (xhi := ignored) (xlo := op) (by decide)).trans BitVec.extractLsb'_eq_self

theorem requestByte_opField (ignored : BitVec 5) (op : BitVec 3) : (requestByte ignored op).extractLsb' 0 3 = op :=
  (BitVec.extractLsb'_append_eq_of_add_le (xhi := ignored) (xlo := op) (by decide)).trans BitVec.extractLsb'_eq_self

/-- A byte is its OP under the ignored bits. -/
theorem requestByte_fields (v : Byte) : requestByte (v.extractLsb' 3 5) (v.extractLsb' 0 3) = v := by
  revert v; decide

/-- A byte with OP = 2 is its CMDSEL between the two reserved bits. -/
theorem sendcmdByte_of_op {v : Byte} (op : v.extractLsb' 0 3 = 2#3) :
    sendcmdByte (v.extractLsb' 4 3) (v.extractLsb' 7 1) (v.extractLsb' 3 1) = v := by
  revert v; decide

/-- OP = 2 leaves the row to CMDSEL; bit 6 is CMDSEL's highest, so it tells 0 to 3 from 4 to 7 (R83). -/
theorem cmdsel_lt_four (v : Byte) : (v.extractLsb' 4 3).toNat < 4 ↔ v.getLsbD 6 = false := by
  revert v; decide

theorem sendcmdByte_decodes (sel : BitVec 3) (r7 r3 : BitVec 1) :
    decodeRequest (sendcmdByte sel r7 r3) = if sel.toNat < 4 then .sendcmd sel r7 r3 else .sendcmdBadsel sel r7 r3 := by
  revert sel r7 r3; decide

theorem decodeRequest_sendcmd {v : Byte} (op : v.extractLsb' 0 3 = 2#3) :
    decodeRequest v =
      if (v.extractLsb' 4 3).toNat < 4 then .sendcmd (v.extractLsb' 4 3) (v.extractLsb' 7 1) (v.extractLsb' 3 1)
      else .sendcmdBadsel (v.extractLsb' 4 3) (v.extractLsb' 7 1) (v.extractLsb' 3 1) := by
  have decoded := sendcmdByte_decodes (v.extractLsb' 4 3) (v.extractLsb' 7 1) (v.extractLsb' 3 1)
  rwa [sendcmdByte_of_op op] at decoded

/-- The row of a request byte, by its OP. -/
theorem decodeRequest_of_op (v : Byte) :
    (v.extractLsb' 0 3 = 0#3 → decodeRequest v = .nop (v.extractLsb' 3 5))
      ∧ (v.extractLsb' 0 3 = 1#3 → decodeRequest v = .init (v.extractLsb' 3 5))
      ∧ (v.extractLsb' 0 3 = 2#3 → v.getLsbD 6 = false →
          decodeRequest v = .sendcmd (v.extractLsb' 4 3) (v.extractLsb' 7 1) (v.extractLsb' 3 1))
      ∧ (v.extractLsb' 0 3 = 2#3 → v.getLsbD 6 = true →
          decodeRequest v = .sendcmdBadsel (v.extractLsb' 4 3) (v.extractLsb' 7 1) (v.extractLsb' 3 1))
      ∧ (v.extractLsb' 0 3 = 3#3 → decodeRequest v = .read (v.extractLsb' 3 5))
      ∧ (v.extractLsb' 0 3 = 4#3 → decodeRequest v = .rdpart (v.extractLsb' 3 5))
      ∧ (v.extractLsb' 0 3 = 5#3 → decodeRequest v = .write (v.extractLsb' 3 5))
      ∧ (v.extractLsb' 0 3 = 6#3 → decodeRequest v = .reserved6 (v.extractLsb' 3 5))
      ∧ (v.extractLsb' 0 3 = 7#3 → decodeRequest v = .reserved7 (v.extractLsb' 3 5)) := by
  refine ⟨decodeRequest_nop, ?_, fun op low => ?_, fun op high => ?_, ?_, ?_, ?_, ?_, ?_⟩
  case refine_2 => exact (decodeRequest_sendcmd op).trans (if_pos ((cmdsel_lt_four v).mpr low))
  case refine_3 => exact (decodeRequest_sendcmd op).trans (if_neg (mt (cmdsel_lt_four v).mp (by simp [high])))
  all_goals
    intro op
    simp [decodeRequest, op]

theorem bitVec_three_cases (op : BitVec 3) :
    op = 0#3 ∨ op = 1#3 ∨ op = 2#3 ∨ op = 3#3 ∨ op = 4#3 ∨ op = 5#3 ∨ op = 6#3 ∨ op = 7#3 := by
  revert op; decide

/-- Every byte is a request byte: its row is well-formed and is encoded as that byte. -/
theorem decodeRequest_sound (cfg : Config) (v : Byte) :
    (decodeRequest v).wellFormed cfg = true ∧ encode cfg (decodeRequest v) = [v] := by
  obtain ⟨nop, init, sendcmd, badsel, read, rdpart, write, reserved6, reserved7⟩ := decodeRequest_of_op v
  have whole := requestByte_fields v
  obtain op | op | op | op | op | op | op | op := bitVec_three_cases (v.extractLsb' 0 3)
  case inr.inr.inl =>
    cases high : v.getLsbD 6 with
    | false =>
      rw [sendcmd op high]
      exact ⟨decide_eq_true ((cmdsel_lt_four v).mpr high), congrArg (fun b => [b]) (sendcmdByte_of_op op)⟩
    | true =>
      have four : 4 ≤ (v.extractLsb' 4 3).toNat := Nat.not_lt.mp (mt (cmdsel_lt_four v).mp (by simp [high]))
      rw [badsel op high]
      exact ⟨decide_eq_true four, congrArg (fun b => [b]) (sendcmdByte_of_op op)⟩
  all_goals
    rw [op] at whole
    simp [nop, init, read, rdpart, write, reserved6, reserved7, op, Instr.wellFormed, encode, whole]

/-- Settles O2: OP has eight values, and each is a row. -/
theorem everyRequestByteDecodes : Obligations.EveryRequestByteDecodes := by
  intro cfg v
  obtain ⟨wellFormed, encoded⟩ := decodeRequest_sound cfg v
  exact ⟨rfl, wellFormed, decodeRequest_space v, encoded, decodeRequest_of_op v⟩

/-! ## Command frames (R85 to R88) -/

/-- Where the six command bytes differ, a command byte names its command (R86). -/
theorem commandOf_cmdByte {cfg : Config} (distinct : (commands.map cfg.cmdByte).Nodup) (c : Command) :
    commandOf cfg (cfg.cmdByte c) = some c := by
  have listed : ∀ d : Command, d ∈ commands := by intro d; cases d <;> decide
  have found : (commandOf cfg (cfg.cmdByte c)).isSome := by
    rw [commandOf, List.find?_isSome]
    exact ⟨c, listed c, beq_self_eq_true _⟩
  obtain ⟨d, first⟩ := Option.isSome_iff_exists.mp found
  have sameByte : cfg.cmdByte d = cfg.cmdByte c := by simpa using List.find?_some first
  rw [first, List.inj_on_of_nodup_map distinct (listed d) (listed c) sameByte]

theorem decodeFrame_frameWord {cfg : Config} (distinct : (commands.map cfg.cmdByte).Nodup) (c : Command) (arg : BitVec 32) :
    decodeFrame cfg (frameWord (cfg.cmdByte c) arg) = .ok (frameInstr c arg) := by
  rw [decodeFrame, if_pos (frameWord_trailerField _ _), frameWord_commandField, commandOf_cmdByte distinct,
    frameWord_argumentField _ _ (by decide) (by decide), BitVec.extractLsb'_eq_self]

theorem decodeBytes_frame {cfg : Config} (distinct : (commands.map cfg.cmdByte).Nodup) (c : Command) (arg : BitVec 32) :
    decodeBytes cfg .frame (frameBytes (cfg.cmdByte c) arg) = .ok (frameInstr c arg) :=
  (Laws.decodeBytes_frameBytes cfg _ arg).trans (decodeFrame_frameWord distinct c arg)

/-! ## Received bytes (R90 to R95) -/

/-- The data-response site reads the low nibble and keeps the high one (R92). -/
theorem decodeDataResponse_append (hi lo : BitVec 4) :
    decodeDataResponse (hi ++ lo) =
      if lo = 0x5#4 then .ok (.drespAccepted hi)
      else if lo = 0xB#4 then .ok (.drespCrcRejected hi)
      else if lo = 0xD#4 then .ok (.drespWriteError hi)
      else .error .dataResponseNotYet := by
  revert hi lo; decide

/-- Settles O5: a byte is its two nibbles, and the decoder branches on the low one. -/
theorem dataResponseByLowNibble : Obligations.DataResponseByLowNibble := by
  intro cfg d
  have split := decodeDataResponse_append (d.extractLsb' 4 4) (d.extractLsb' 0 4)
  rwa [Laws.nibbles] at split

/-- Settles O3: ten closed words, evaluated. -/
theorem writtenWordsDecode : Obligations.WrittenWordsDecode := by
  unfold Obligations.WrittenWordsDecode
  decide

/-! ## Every row (R80) -/

theorem decodeBytes_received {cfg : Config} {site : Site} {x : Byte} {i : Instr} (row : decodeReceived cfg site x = .ok i) :
    decodeBytes cfg (.received site) [x] = .ok i := by
  simp [decodeBytes, row]

theorem decodeBytes_request {cfg : Config} {ignored : BitVec 5} {op : BitVec 3} {i : Instr}
    (row : decodeRequest (requestByte ignored op) = i) : decodeBytes cfg .request [requestByte ignored op] = .ok i :=
  congrArg Except.ok row

/-- Settles O1: the request rows by their OP, the frame rows by their command byte, the received rows by their site. -/
theorem decodeEncodeAgree : Obligations.DecodeEncodeAgree := by
  intro cfg i distinct wellFormed
  cases i with
  | nop ignored | init ignored | read ignored | rdpart ignored | write ignored | reserved6 ignored | reserved7 ignored =>
    exact decodeBytes_request (by simp [decodeRequest, requestByte_opField, requestByte_ignored])
  | sendcmd sel r7 r3 =>
    have low : sel.toNat < 4 := by simpa [Instr.wellFormed] using wellFormed
    exact congrArg Except.ok ((sendcmdByte_decodes sel r7 r3).trans (if_pos low))
  | sendcmdBadsel sel r7 r3 =>
    have high : ¬ sel.toNat < 4 := by simpa [Instr.wellFormed] using wellFormed
    exact congrArg Except.ok ((sendcmdByte_decodes sel r7 r3).trans (if_neg high))
  | goIdle arg | initCmd arg | appCmd arg | sdSendOpCond arg | readSingle arg | writeSingle arg =>
    exact decodeBytes_frame distinct _ arg
  | respNotReady | respOk | dataToken | busy => exact decodeBytes_received rfl
  | respIdleOk =>
    obtain ⟨ready, notOk⟩ : cfg.idleOk ≠ notReadyByte ∧ cfg.idleOk ≠ okByte := by
      simpa [Instr.wellFormed, notReadyByte, okByte] using wellFormed
    exact decodeBytes_received (by simp [decodeReceived, decodeResponse, ready, notOk])
  | respError x =>
    obtain ⟨⟨ready, notOk⟩, notIdle⟩ : (x ≠ notReadyByte ∧ x ≠ okByte) ∧ x ≠ cfg.idleOk := by
      simpa [Instr.wellFormed, notReadyByte, okByte] using wellFormed
    exact decodeBytes_received (by simp [decodeReceived, decodeResponse, ready, notOk, notIdle])
  | drespAccepted hi | drespCrcRejected hi | drespWriteError hi =>
    exact decodeBytes_received (decodeDataResponse_append hi _)

end Sys2Proof.Proofs
end

section
/-! One turn: which row a step runs, the acceptance of requests (40_protocol.md R120), and the rows of the frames and of the received bytes
(30_encoding.md R85 to R93). -/

namespace Sys2Proof.Proofs

open Sys2Proof.Machine

/-! ## Which row a step runs (00_scope.md R12) -/

/-- Settles O6: the host's turn fetches the decoded request. -/
theorem stepRunsRequestByte : Obligations.StepRunsRequestByte := by
  intro s v legal turn
  exact step_hostRequest legal turn

/-- While an operation runs, a received byte with a row runs that row. -/
theorem step_site_row {s : State} {site : Site} {i : Instr} (legal : s.cfg.legal = true) (turn : nextTurn s = .sequencer)
    (isCoherent : coherent s = true) (atSite : siteOf s.seq.pos = some site) (row : decodeReceived s.cfg site s.seq.rx = .ok i) :
    step s = exec i (turnTaken s) := by
  rw [Laws.step_sequencer legal turn]
  simp [sequencerWork, isCoherent, atSite, row]

/-- Before the first exchange of a frame, the frame's row runs. -/
theorem step_frame_row {s : State} (legal : s.cfg.legal = true) (turn : nextTurn s = .sequencer) (isCoherent : coherent s = true)
    (pos : s.seq.pos = .frame 0) : step s = exec (frameInstr s.seq.cmd s.seq.arg) (turnTaken s) := by
  rw [Laws.step_sequencer legal turn]
  simp [sequencerWork, isCoherent, pos, siteOf]

/-- Settles O7: a busy machine is coherent at every position but IDLE, which is no site and no frame. -/
theorem stepRunsSequencerRow : Obligations.StepRunsSequencerRow := by
  intro s legal busy turn
  have coherentAt : s.seq.pos ≠ .idle → coherent s = true := fun running => by simp [coherent, busy, running]
  refine ⟨fun site i atSite row => ?_, fun pos => ?_⟩
  · have running : s.seq.pos ≠ .idle := fun idle => by simp [idle, siteOf] at atSite
    exact step_site_row legal turn (coherentAt running) atSite row
  · exact step_frame_row legal turn (coherentAt (by simp [pos])) pos

/-! ## The width of a host access (20_memory.md R65) -/

/-- A host access of another width than one byte is refused, at OPREQ too. -/
theorem step_hostAccess_wide {s : State} {a : HostAccess} (legal : s.cfg.legal = true) (turn : nextTurn s = .host a)
    (wide : turnOneByte (.host a) = false) : step s = .refused .accessWidth := by
  rw [Laws.step_host legal turn]
  cases a with
  | read addr w =>
    have other : w ≠ 1 := by simpa [turnOneByte] using wide
    simp [hostWork, perform, hostAccess]
  | write addr w v =>
    have other : w ≠ 1 := by simpa [turnOneByte] using wide
    simp [hostWork, perform, hostAccess]

/-- A one-byte host access completes: a read, a request or a store. -/
theorem step_hostAccess_completes {s : State} {a : HostAccess} (legal : s.cfg.legal = true) (turn : nextTurn s = .host a)
    (oneByte : turnOneByte (.host a) = true) : ∃ t, step s = .next t := by
  cases a with
  | read addr w =>
    obtain rfl : w = 1 := by simpa [turnOneByte] using oneByte
    exact ⟨_, step_hostRead legal turn⟩
  | write addr w v =>
    obtain rfl : w = 1 := by simpa [turnOneByte] using oneByte
    by_cases isRequest : addr = 0x200#10
    · subst isRequest
      rw [step_hostRequest legal turn]
      exact exec_eq_next _ _
    · exact ⟨_, step_hostWrite legal turn isRequest⟩

/-- Settles O9: the width decides, whatever the address. -/
theorem hostAccessIsOneByte : Obligations.HostAccessIsOneByte := by
  intro s a w v legal
  constructor <;> intro turn <;> split
  case left.isTrue oneByte => exact step_hostAccess_completes legal turn (by simp [turnOneByte, oneByte])
  case left.isFalse wide => exact step_hostAccess_wide legal turn (by simp [turnOneByte, wide])
  case right.isTrue oneByte => exact step_hostAccess_completes legal turn (by simp [turnOneByte, oneByte])
  case right.isFalse wide => exact step_hostAccess_wide legal turn (by simp [turnOneByte, wide])

/-! ## Requests that are ignored, accepted or refused (40_protocol.md R120) -/

/-- Settles O17: no row of the request space touches a busy machine. -/
theorem busyRequestIgnored : Obligations.BusyRequestIgnored := by
  intro s i space busy
  exact exec_request_of_busy space busy

/-- Settles O18: the check of INIT passes in Uninitialized. -/
theorem initAccepted : Obligations.InitAccepted := by
  intro s ignored rest session
  exact congrArg Host.Outcome.next (Laws.request_accepted rest (if_pos session))

/-- Settles O19: the check of SENDCMD asks for CMDSEL 0 to 3 alone. -/
theorem sendcmdAccepted : Obligations.SendcmdAccepted := by
  intro s sel r7 r3 rest low
  exact congrArg Host.Outcome.next (Laws.request_accepted rest (if_pos low))

theorem sessionReady_of_card {x : Session} (card : x = .sdCard ∨ x = .mmcCard) : sessionReady x = true := by
  obtain rfl | rfl := card <;> rfl

/-- Settles O20: the session check passes in both card sessions, and the window check for a window that fits. -/
theorem blockRequestsAccepted : Obligations.BlockRequestsAccepted := by
  intro s ignored rest session
  have ready := sessionReady_of_card session
  refine ⟨?_, fun fits => ?_, ?_⟩
  · exact congrArg Host.Outcome.next (Laws.request_accepted rest (if_pos ready))
  · exact congrArg Host.Outcome.next (Laws.request_accepted rest ((if_pos ready).trans (if_pos fits)))
  · exact congrArg Host.Outcome.next (Laws.request_accepted rest (if_pos ready))

/-- Settles O22: the check of SENDCMD_BADSEL always fails. -/
theorem badCmdselFailsParamError : Obligations.BadCmdselFailsParamError := by
  intro s sel r7 r3 inv rest _
  exact ⟨_, rfl, refusedWith_request inv rest rfl⟩

/-! ## The frame rows (R130 to R135) -/

/-- Byte 0 of a frame is its command byte (30_encoding.md R85). -/
theorem frameByte_zero (b : Byte) (arg : BitVec 32) : frameByte (frameWord b arg) 0 = b := frameWord_commandField b arg

/-- The first exchange of SendCommand sends the command byte. -/
theorem beginFrame_exchange (c : Command) (arg : BitVec 32) (s : State) :
    beginFrame c arg s = exchangeAt (.frame 1) (s.cfg.cmdByte c) { s with seq := { s.seq with cmd := c, arg := arg } } := by
  rw [beginFrame, frameByte_zero]

/-- The six frame rows differ in their command only. -/
theorem exec_frameInstr (c : Command) (arg : BitVec 32) (s : State) : exec (frameInstr c arg) s = .next (beginFrame c arg s) := by
  cases c <;> rfl

/-- Settles O25: each row is the frame of its command. -/
theorem frameRowsSendCommandByte : Obligations.FrameRowsSendCommandByte := by
  intro s arg i c row
  have isFrame : i = frameInstr c arg := by
    simp only [List.mem_cons, Prod.mk.injEq, List.not_mem_nil, or_false] at row
    obtain ⟨rfl, rfl⟩ | ⟨rfl, rfl⟩ | ⟨rfl, rfl⟩ | ⟨rfl, rfl⟩ | ⟨rfl, rfl⟩ | ⟨rfl, rfl⟩ := row <;> rfl
  rw [isFrame, exec_frameInstr, beginFrame_exchange]
  rfl

/-! ## The response rows (R90, R125 to R127) -/

/-- Settles O27: the three rows differ in the byte they latch only. -/
theorem responseRowsLatchResponse : Obligations.ResponseRowsLatchResponse := by
  intro s x i row
  simp only [List.mem_cons, Prod.mk.injEq, List.not_mem_nil, or_false, and_true] at row
  obtain ⟨rfl, rfl⟩ | ⟨rfl, rfl⟩ | rfl := row <;> rfl

/-- Settles O28: the poll of a not-ready byte inside the budget. -/
theorem notReadyPollsAgain : Obligations.NotReadyPollsAgain := by
  intro s legal inside
  obtain ⟨⟨-, budget⟩, -⟩ := Laws.legal_bounds legal
  exact congrArg Host.Outcome.next (Laws.noResponse_again inside budget)

/-- A timeout fails every operation but INIT (R123, R180, R185, R210). -/
theorem returnCommand_timeout {s : State} (caller : s.seq.caller ∈ [Caller.sendcmd, .read, .rdpart, .write])
    (timeout : s.seq.timedout = true) : returnCommand s = failWith .cmdTimeout s := by
  simp only [List.mem_cons, List.not_mem_nil, or_false] at caller
  unfold returnCommand
  obtain caller | caller | caller | caller := caller <;> simp only [caller]
  · exact if_pos timeout
  · exact Laws.checkBlockResponse_timeout timeout
  · exact Laws.checkBlockResponse_timeout timeout
  · exact Laws.checkBlockResponse_timeout timeout

/-- Settles O29: the last poll returns a timeout, which these callers fail on. -/
theorem lastNotReadyTimesOut : Obligations.LastNotReadyTimesOut := by
  intro s legal last caller
  obtain ⟨⟨-, budget⟩, -⟩ := Laws.legal_bounds legal
  refine ⟨_, congrArg Host.Outcome.next ((Laws.noResponse_last last budget).trans (returnCommand_timeout caller rfl)), rfl, rfl⟩

/-! ## The first step of an operation (R123, R180, R185, R210) -/

/-- Shifting by 9 drops ARG[31:23] (R87). -/
theorem blockArgument_eq_append (lba : BitVec 32) : blockArgument lba = lba.extractLsb' 0 23 ++ 0#9 := by
  refine BitVec.eq_of_getLsbD_eq fun i bound => ?_
  rw [blockArgument, BitVec.getLsbD_shiftLeft, BitVec.getLsbD_append, BitVec.getLsbD_extractLsb']
  by_cases low : i < 9
  · simp [low]
  · have inArg : i - 9 < 23 := by omega
    simp [low, bound, inArg]

/-- The four commands that SENDCMD offers. -/
theorem sendcmdCommand_of_cmdsel {v : Byte} {c : Command} (low : (cmdsel v).toNat < 4) (named : cmdselCommand (cmdsel v) = some c) :
    sendcmdCommand v = c := by
  unfold sendcmdCommand
  unfold cmdselCommand at named
  generalize (cmdsel v).toNat = n at low named
  interval_cases n <;> exact Option.some.inj named

/-- A call of SendCommand is one exchange, of the command byte, with its parameters latched (R124). -/
theorem callCommand_eq (caller : Caller) (c : Command) (arg : BitVec 32) (s : State) :
    callCommand caller c arg s
      = exchangeAt (.frame 1) (s.cfg.cmdByte c) { s with seq := { s.seq with caller := caller, cmd := c, arg := arg } } := by
  rw [Laws.callCommand_exchange, frameByte_zero]

/-- Settles O31: `Select` and the first exchange of the operation's frame. -/
theorem operationsBeginTheirFrame : Obligations.OperationsBeginTheirFrame := by
  intro s op caller c a legal busy turn pos operation
  have first := Laws.step_start legal turn (by simp [coherent, busy, pos]) pos
  have begins : beginOperation op (turnTaken s) = callCommand caller c a (select (turnTaken s)) := by
    obtain ⟨rfl, rfl, rfl, rfl⟩ | ⟨rfl, rfl, rfl, rfl⟩ | ⟨rfl, rfl, rfl, rfl⟩ | ⟨rfl, rfl, low, named, rfl⟩ := operation
    · rw [← blockArgument_eq_append]; rfl
    · rw [← blockArgument_eq_append]; rfl
    · rw [← blockArgument_eq_append]; rfl
    · rw [← sendcmdCommand_of_cmdsel low named]; rfl
  refine ⟨(callCommand caller c a (select (turnTaken s))).seq.rx, ?_⟩
  rw [first, begins, callCommand_eq]
  simp only [exchangeAt, select, List.append_assoc]
  rfl

/-! ## The rows of the sector transfers (R91 to R93) -/

/-- Settles O39: the data position is that of the caller. -/
theorem dataTokenBeginsData : Obligations.DataTokenBeginsData := by
  intro s
  have position : dataPos s.seq.caller = if s.seq.caller = .rdpart then .partData else .readData := by
    cases s.seq.caller <;> rfl
  rw [← position]
  rfl

/-- Statements that leave the bus, the card's answers and the draws alone do not change what the next exchange receives. -/
theorem exchangeAt_of_sameBus {s u : State} (card : u.card = s.card) (trace : u.trace = s.trace) (draws : u.draws = s.draws)
    (p : Pos) (tx : Byte) :
    exchangeAt p tx u =
      { u with trace := s.trace ++ [.x tx (s.answer tx)]
               card := s.card.tail
               draws := s.draws + (if s.card.isEmpty then 1 else 0)
               seq := { u.seq with pos := p, rx := s.answer tx } } := by
  have sameAnswer : u.answer tx = s.answer tx := by simp only [State.answer, card, trace, draws]
  simp only [exchangeAt, sameAnswer, card, trace, draws]

/-- Settles O45: each row latches its byte, then polls or fails. -/
theorem dataResponseRows : Obligations.DataResponseRows := by
  intro s hi
  refine ⟨congrArg Host.Outcome.next ?_, ⟨_, rfl, rfl, rfl⟩, ⟨_, rfl, rfl, rfl⟩⟩
  rw [exchangeAt_of_sameBus (s := s) (by simp) (by simp) (by simp)]
  simp only [clearPolls, latchDataResponse, countPoll, fillerByte]

theorem cardBusy_again {s : State} (inside : s.seq.n.toNat + 1 < s.cfg.busyPollBudget) (budget : s.cfg.busyPollBudget ≤ 65535) :
    cardBusy s = exchangeAt .busyPoll fillerByte (countPoll s) := by
  have counted := Laws.count_toNat (n := s.seq.n) (b := s.cfg.busyPollBudget) (by omega) budget
  simp [cardBusy, counted, Nat.ne_of_lt inside]

theorem cardBusy_last {s : State} (last : s.seq.n.toNat + 1 = s.cfg.busyPollBudget) (budget : s.cfg.busyPollBudget ≤ 65535) :
    cardBusy s = failWith .busyTimeout (countPoll s) := by
  have counted := Laws.count_toNat (n := s.seq.n) (b := s.cfg.busyPollBudget) (by omega) budget
  simp [cardBusy, counted, last]

/-- Settles O47: the budget decides. -/
theorem busyRow : Obligations.BusyRow := by
  intro s legal
  obtain ⟨-, -, -, -, -, ⟨-, budget⟩, -⟩ := Laws.legal_bounds legal
  refine ⟨fun inside => congrArg Host.Outcome.next (cardBusy_again inside budget), fun last => ?_⟩
  exact ⟨_, congrArg Host.Outcome.next (cardBusy_last last budget), rfl, rfl⟩

end Sys2Proof.Proofs
end

section
/-! The host's registers: STATUS bit by bit, what a read returns and what a write stores (10_state.md R22 to R34, 20_memory.md R65 to R70). -/

namespace Sys2Proof.Proofs

open Sys2Proof.Machine

/-! ## STATUS (R24) -/

/-- Settles O51: the byte is a function of five flags. -/
theorem statusBits : Obligations.StatusBits := by
  intro s
  unfold statusByte
  generalize s.busy = busy, s.done = done, s.fail = fail, s.sel = sel, s.clkfast = clkfast
  revert busy done fail sel clkfast
  decide

/-! ## The bytes of the parameter registers (R30 to R32, R63) -/

/-- A bit of ARG with one byte replaced. -/
theorem withByte_getLsbD (w : BitVec 32) {k : Nat} (v : Byte) (inWord : k < 4) {i : Nat} (bound : i < 32) :
    (withByte w k v).getLsbD i = if 8 * k ≤ i ∧ i < 8 * k + 8 then v.getLsbD (i - 8 * k) else w.getLsbD i := by
  interval_cases k <;> simp only [withByte, BitVec.getLsbD_append, BitVec.getLsbD_extractLsb'] <;> grind

/-- A byte of ARG with one byte replaced. -/
theorem byteOf_withByte (w : BitVec 32) {j k : Nat} (v : Byte) (inWord : j < 4) (replaced : k < 4) :
    byteOf (withByte w k v) j = if j = k then v else byteOf w j := by
  refine BitVec.eq_of_getLsbD_eq fun i bound => ?_
  rw [byteOf, BitVec.getLsbD_extractLsb', withByte_getLsbD w v replaced (by omega)]
  by_cases same : j = k
  · subst same
    simp [bound]
  · have outside : ¬ (8 * k ≤ 8 * j + i ∧ 8 * j + i < 8 * k + 8) := by omega
    simp [same, outside, byteOf]

/-- ARG is its four bytes. -/
theorem eq_of_byteOf {w w' : BitVec 32} (bytes : ∀ j, j < 4 → byteOf w j = byteOf w' j) : w = w' := by
  refine BitVec.eq_of_getLsbD_eq fun i bound => ?_
  have sameBit := congrArg (fun b : Byte => b.getLsbD (i % 8)) (bytes (i / 8) (by omega))
  simpa [byteOf, Nat.mod_lt, Nat.div_add_mod] using sameBit

/-- The low byte and the high bits of a 10-bit register with its low byte replaced. -/
theorem withLow_fields (w : BitVec 10) (v : Byte) :
    (withLow w v).extractLsb' 0 8 = v ∧ (withLow w v).extractLsb' 8 2 = w.extractLsb' 8 2 :=
  ⟨(BitVec.extractLsb'_append_eq_of_add_le (xhi := w.extractLsb' 8 2) (xlo := v) (by decide)).trans BitVec.extractLsb'_eq_self,
    (BitVec.extractLsb'_append_eq_of_le (xhi := w.extractLsb' 8 2) (xlo := v) (by decide)).trans BitVec.extractLsb'_eq_self⟩

/-- The low byte and the high bits of a 10-bit register with its high bits replaced. -/
theorem withHigh_fields (w : BitVec 10) (v : Byte) :
    (withHigh w v).extractLsb' 0 8 = w.extractLsb' 0 8 ∧ (withHigh w v).extractLsb' 8 2 = v.extractLsb' 0 2 :=
  ⟨(BitVec.extractLsb'_append_eq_of_add_le (xhi := v.extractLsb' 0 2) (xlo := w.extractLsb' 0 8) (by decide)).trans
      BitVec.extractLsb'_eq_self,
    (BitVec.extractLsb'_append_eq_of_le (xhi := v.extractLsb' 0 2) (xlo := w.extractLsb' 0 8) (by decide)).trans
      BitVec.extractLsb'_eq_self⟩

/-- A 10-bit register is its low byte and its high bits. -/
theorem eq_of_low_high {w w' : BitVec 10} (low : w.extractLsb' 0 8 = w'.extractLsb' 0 8)
    (high : w.extractLsb' 8 2 = w'.extractLsb' 8 2) : w = w' := by
  refine BitVec.eq_of_getLsbD_eq fun i bound => ?_
  by_cases inLow : i < 8
  · simpa [inLow] using congrArg (fun b : Byte => b.getLsbD i) low
  · have inHigh : i - 8 < 2 := by omega
    have sum : 8 + (i - 8) = i := by omega
    simpa [inHigh, sum] using congrArg (fun b : BitVec 2 => b.getLsbD (i - 8)) high

/-! ## Reads (R22, R33, R34, R67) -/

/-- A BUF byte that was written is read as it is, and nothing is drawn. -/
theorem hostRead_written {a : BitVec 10} {s : State} {b : Byte} (rest : s.busy = false) (inBuf : a.toNat < 512)
    (written : Memory.read s.buf a.toNat = some b) : hostReadValue s a = b ∧ hostReadDraws s a = false := by
  simp [hostReadValue, hostReadDraws, bufByte, rest, inBuf, written]

/-- A BUF byte that nothing has written is read as the next free value, which is drawn. -/
theorem hostRead_unwritten {a : BitVec 10} {s : State} (inBuf : a.toNat < 512) (unwritten : Memory.read s.buf a.toNat = none) :
    hostRead a s = { s with draws := s.draws + 1, reads := s.reads ++ [{ addr := a, value := Config.freeByte s.draws }] } := by
  simp [hostRead, hostReadValue, hostReadDraws, bufByte, inBuf, unwritten]

/-- Settles O54: a free value, drawn. -/
theorem unwrittenBufIsFresh : Obligations.UnwrittenBufIsFresh := by
  intro s a legal turn inBuf unwritten
  rw [step_hostRead legal turn, hostRead_unwritten (s := turnTaken s) inBuf unwritten]
  rfl

theorem hostReadValue_register {a : BitVec 10} (s : State) (register : 512 ≤ a.toNat) :
    hostReadValue s a = registerByte s a.toNat :=
  if_neg (Nat.not_lt.mpr register)

/-- Above CNT_HI the addresses are reserved (R33). -/
theorem registerByte_reserved (s : State) {a : Nat} (reserved : 0x210 ≤ a) : registerByte s a = 0x00#8 := by
  unfold registerByte
  split
  case h_17 => rfl
  all_goals omega

/-- Bits 7:2 of a high register read 0 (R31). -/
theorem highByte_eq_append (w : BitVec 10) : highByte w = 0#6 ++ w.extractLsb' 8 2 := by
  unfold highByte
  generalize w.extractLsb' 8 2 = high
  revert high
  decide

/-- Settles O52: the value is the one the port's table gives, and the step keeps everything but the turn, the reads and the draws. -/
theorem hostReadReturnsRegister : Obligations.HostReadReturnsRegister := by
  intro s a legal turn
  refine ⟨_, hostReadValue (turnTaken s) a, step_hostRead legal turn, rfl, fun b inBuf rest written => ?_, ?_⟩
  · obtain ⟨value, noDraw⟩ := hostRead_written (s := turnTaken s) rest inBuf written
    exact ⟨value, by simp [noDraw]⟩
  refine ⟨?_, ?_, ?_, ?_, ?_, ?_, ?_, ?_, ?_, ?_, ?_, ?_, ?_, ?_, ?_, ?_, ?_, ?_⟩
  case refine_3 =>
    rintro rfl
    change (s.err, errCode s.err) ∈ _
    cases s.err <;> simp [errCode]
  case refine_6 =>
    rintro rfl
    change (s.session, sessionCode s.session) ∈ _
    cases s.session <;> simp [sessionCode]
  case refine_14 => rintro rfl; exact highByte_eq_append s.offs
  case refine_16 => rintro rfl; exact highByte_eq_append s.cnt
  case refine_17 =>
    intro reserved
    rw [hostReadValue_register _ (by omega), registerByte_reserved _ reserved]
  case refine_18 => intro register; rw [hostRead_register register]; rfl
  all_goals
    rintro rfl
    rfl

/-! ## Writes (R22, R33, R68) -/

theorem hostWrite_buf {a : BitVec 10} (v : Byte) {s : State} (rest : s.busy = false) (inBuf : a.toNat < 512) :
    hostWrite a v s = storeBuf a.toNat v s := by
  simp [hostWrite, rest, inBuf]

theorem hostWrite_register {a : BitVec 10} (v : Byte) {s : State} (rest : s.busy = false) (register : 512 ≤ a.toNat) :
    hostWrite a v s = storeRegister a.toNat v s := by
  simp [hostWrite, rest, Nat.not_lt.mpr register]

theorem storeRegister_buf (a : Nat) (v : Byte) (s : State) : (storeRegister a v s).buf = s.buf := by
  unfold storeRegister
  split <;> rfl

/-- Each byte of ARG has its address. -/
theorem storeRegister_arg (a : Nat) (v : Byte) (s : State) {j : Nat} (inWord : j < 4) :
    byteOf (storeRegister a v s).arg j = if a = 0x208 + j then v else byteOf s.arg j := by
  unfold storeRegister
  split
  case h_1 | h_2 | h_3 | h_4 =>
    rw [byteOf_withByte s.arg v inWord (by decide)]
    interval_cases j <;> rfl
  case h_9 => interval_cases j <;> exact (if_neg (by assumption)).symm
  all_goals
    rw [if_neg]
    omega

theorem storeRegister_offs (a : Nat) (v : Byte) (s : State) :
    (storeRegister a v s).offs.extractLsb' 0 8 = (if a = 0x20C then v else s.offs.extractLsb' 0 8)
      ∧ (storeRegister a v s).offs.extractLsb' 8 2 = (if a = 0x20D then v.extractLsb' 0 2 else s.offs.extractLsb' 8 2) := by
  unfold storeRegister
  split
  case h_5 => exact withLow_fields s.offs v
  case h_6 => exact withHigh_fields s.offs v
  all_goals exact ⟨(if_neg (by omega)).symm, (if_neg (by omega)).symm⟩

theorem storeRegister_cnt (a : Nat) (v : Byte) (s : State) :
    (storeRegister a v s).cnt.extractLsb' 0 8 = (if a = 0x20E then v else s.cnt.extractLsb' 0 8)
      ∧ (storeRegister a v s).cnt.extractLsb' 8 2 = (if a = 0x20F then v.extractLsb' 0 2 else s.cnt.extractLsb' 8 2) := by
  unfold storeRegister
  split
  case h_7 => exact withLow_fields s.cnt v
  case h_8 => exact withHigh_fields s.cnt v
  all_goals exact ⟨(if_neg (by omega)).symm, (if_neg (by omega)).symm⟩

/-- Settles O55: below 512 the write stores a BUF byte, above it a byte of the register at its address. -/
theorem hostWriteStoresParameter : Obligations.HostWriteStoresParameter := by
  intro s a v legal rest turn notRequest
  have keeps : hostWrite a v (turnTaken s)
      = { s with agenda := s.agenda.tail, buf := (hostWrite a v (turnTaken s)).buf, arg := (hostWrite a v (turnTaken s)).arg,
                 offs := (hostWrite a v (turnTaken s)).offs, cnt := (hostWrite a v (turnTaken s)).cnt } :=
    Laws.hostWrite_keeps a v (turnTaken s)
  have atAddress : ∀ n : Nat, n < 1024 → (a = BitVec.ofNat 10 n ↔ a.toNat = n) := fun n bound => by
    rw [← BitVec.toNat_inj, BitVec.toNat_ofNat, Nat.mod_eq_of_lt bound]
  refine ⟨_, step_hostWrite legal turn notRequest, keeps, ?_⟩
  simp only [atAddress 0x20C (by decide), atAddress 0x20D (by decide), atAddress 0x20E (by decide), atAddress 0x20F (by decide)]
  by_cases inBuf : a.toNat < 512
  · rw [hostWrite_buf (s := turnTaken s) v rest inBuf]
    refine ⟨fun _ => ⟨Laws.read_write_same _ _ _, fun j other => Laws.read_write_other _ v other⟩, fun register => by omega,
      fun j inWord => (if_neg (by omega)).symm, ?_⟩
    exact ⟨(if_neg (by omega)).symm, (if_neg (by omega)).symm, (if_neg (by omega)).symm, (if_neg (by omega)).symm⟩
  · rw [hostWrite_register (s := turnTaken s) v rest (Nat.not_lt.mp inBuf)]
    obtain ⟨offsLow, offsHigh⟩ := storeRegister_offs a.toNat v (turnTaken s)
    obtain ⟨cntLow, cntHigh⟩ := storeRegister_cnt a.toNat v (turnTaken s)
    exact ⟨fun below => absurd below inBuf, fun _ => storeRegister_buf _ _ _, fun j inWord => storeRegister_arg _ v _ inWord,
      offsLow, offsHigh, cntLow, cntHigh⟩

/-! ## The pseudo-instructions (30_encoding.md R97) -/

/-- A `WR` of a register while BUSY = 0 stores its byte and takes its turn. -/
theorem step_wr {s : State} {a : BitVec 10} {v : Byte} {rest : List Turn} (legal : s.cfg.legal = true) (atRest : s.busy = false)
    (aboveRequest : 0x200 < a.toNat) :
    step { s with agenda := HostProgram.wr a v :: rest } = .next (storeRegister a.toNat v { s with agenda := rest }) := by
  have notRequest : a ≠ 0x200#10 := by rintro rfl; exact absurd aboveRequest (by decide)
  rw [step_hostWrite (s := { s with agenda := HostProgram.wr a v :: rest }) legal rfl notRequest]
  exact congrArg Host.Outcome.next (hostWrite_register (s := { s with agenda := rest }) v atRest (by omega))

/-- The four bytes of a word, stored in turn, are the word. -/
theorem withByte_all (w v : BitVec 32) :
    withByte (withByte (withByte (withByte w 0 (v.extractLsb' 0 8)) 1 (v.extractLsb' 8 8)) 2 (v.extractLsb' 16 8)) 3
      (v.extractLsb' 24 8) = v := by
  refine eq_of_byteOf fun j inWord => ?_
  simp only [byteOf_withByte _ _ inWord (by decide : 3 < 4), byteOf_withByte _ _ inWord (by decide : 2 < 4),
    byteOf_withByte _ _ inWord (by decide : 1 < 4), byteOf_withByte _ _ inWord (by decide : 0 < 4)]
  interval_cases j <;> rfl

/-- So are the low byte and the high bits of a 10-bit register. -/
theorem withHigh_withLow (w v : BitVec 10) :
    withHigh (withLow w (v.extractLsb' 0 8)) ((v.extractLsb' 8 2).setWidth 8) = v := by
  have high : ((v.extractLsb' 8 2).setWidth 8).extractLsb' 0 2 = v.extractLsb' 8 2 := by
    generalize v.extractLsb' 8 2 = bits
    revert bits
    decide
  exact eq_of_low_high ((withHigh_fields _ _).1.trans (withLow_fields _ _).1) ((withHigh_fields _ _).2.trans high)

/-- The first of several `WR` turns. -/
theorem run_wr {s : State} {a : BitVec 10} {v : Byte} {rest : List Turn} (k : Nat) (legal : s.cfg.legal = true)
    (atRest : s.busy = false) (aboveRequest : 0x200 < a.toNat) :
    core.run (k + 1) { s with agenda := HostProgram.wr a v :: rest }
      = core.run k (storeRegister a.toNat v { s with agenda := rest }) :=
  run_succ_of_step (step_wr legal atRest aboveRequest) k

/-- Settles O58: one `WR` a byte, and the bytes are the value. -/
theorem pseudoInstructionsLoad : Obligations.PseudoInstructionsLoad := by
  intro s v w legal rest
  refine ⟨?_, ?_, ?_⟩
  · calc core.run 4 { s with agenda := HostProgram.ldarg v }
      _ = core.run 3 _ := run_wr (s := s) 3 legal rest (by decide)
      _ = core.run 2 _ := run_wr (s := { s with arg := withByte s.arg 0 (v.extractLsb' 0 8) }) 2 legal rest (by decide)
      _ = core.run 1 _ :=
        run_wr (s := { s with arg := withByte (withByte s.arg 0 (v.extractLsb' 0 8)) 1 (v.extractLsb' 8 8) }) 1 legal rest
          (by decide)
      _ = core.run 0 _ :=
        run_wr (s := { s with arg := withByte (withByte (withByte s.arg 0 (v.extractLsb' 0 8)) 1 (v.extractLsb' 8 8)) 2
                                (v.extractLsb' 16 8) }) 0 legal rest (by decide)
      _ = .next { s with agenda := [], arg := v } :=
        congrArg (fun x => Host.Outcome.next ({ s with agenda := [], arg := x } : State)) (withByte_all s.arg v)
  · calc core.run 2 { s with agenda := HostProgram.ldoffs w }
      _ = core.run 1 _ := run_wr (s := s) 1 legal rest (by decide)
      _ = core.run 0 _ := run_wr (s := { s with offs := withLow s.offs (w.extractLsb' 0 8) }) 0 legal rest (by decide)
      _ = .next { s with agenda := [], offs := w } :=
        congrArg (fun x => Host.Outcome.next ({ s with agenda := [], offs := x } : State)) (withHigh_withLow s.offs w)
  · calc core.run 2 { s with agenda := HostProgram.ldcnt w }
      _ = core.run 1 _ := run_wr (s := s) 1 legal rest (by decide)
      _ = core.run 0 _ := run_wr (s := { s with cnt := withLow s.cnt (w.extractLsb' 0 8) }) 0 legal rest (by decide)
      _ = .next { s with agenda := [], cnt := w } :=
        congrArg (fun x => Host.Outcome.next ({ s with agenda := [], cnt := x } : State)) (withHigh_withLow s.cnt w)

end Sys2Proof.Proofs
end

section
/-! What one step can do: every step of the sequencer as a table, read off the model once, and what follows from it for every step: the outcome
(20_memory.md R65), the bus (00_scope.md R12), the card's answers and the parameters. -/

namespace Sys2Proof.Proofs

open Sys2Proof.Machine

/-! ## The return of SendCommand (40_protocol.md R123 to R129, 41_session.md R152 to R156) -/

/-- The state after the last not-ready byte: RESP and the latched response are 0xFF and a timeout is latched (R127). -/
def timedOutState (s : State) : State :=
  { countPoll s with resp := notReadyByte, seq := { (countPoll s).seq with r := notReadyByte, timedout := true } }

/-- SendCommand, called by the operation of `s`, returns in the state `u`: after the dummy exchange, or out of polls. -/
inductive ReturnsIn (s : State) : State → Prop where
  | response (pos : s.seq.pos = .respDummy) : ReturnsIn s s
  | timeout (pos : s.seq.pos = .respPoll) (notReady : s.seq.rx = notReadyByte)
      (last : ¬ (s.seq.n + 1#16).toNat < s.cfg.respPollBudget) : ReturnsIn s (timedOutState s)

/-- How the caller goes on with a response. -/
inductive Returned (s : State) : State → Prop where
  | timesOut (caller : s.seq.caller ∈ [Caller.sendcmd, .read, .rdpart, .write]) : Returned s (failWith .cmdTimeout s)
  | rejected (caller : s.seq.caller ∈ [Caller.read, .rdpart, .write]) : Returned s (failWith .cmdRejected s)
  | sendcmdDone (caller : s.seq.caller = .sendcmd) : Returned s (succeed (deselect s))
  | tokenWait (caller : s.seq.caller = .read ∨ s.seq.caller = .rdpart) :
      Returned s (exchangeAt .tokenPoll fillerByte (clearPolls s))
  | writeData (caller : s.seq.caller = .write) : Returned s (exchangeAt .writeDummy fillerByte s)
  | idleFailed (caller : s.seq.caller = .initIdle) (last : s.att.toNat = s.cfg.idleAttempts) :
      Returned s (failWith .idleFailed { s with session := .failed })
  | idleAgain (caller : s.seq.caller = .initIdle) (more : s.att.toNat ≠ s.cfg.idleAttempts) :
      Returned s (callCommand .initIdle .goIdle 0#32 { s with att := s.att + 1#16 })
  | idleEntered (caller : s.seq.caller = .initIdle) :
      Returned s (callCommand .initInit .initCmd 0#32 { s with session := .idleEntered, att := 1#16 })
  | initFailed (caller : s.seq.caller = .initInit) (last : s.att.toNat = s.cfg.initAttempts) :
      Returned s (failWith .initFailed { s with session := .failed })
  | initAgain (caller : s.seq.caller = .initInit) (more : s.att.toNat ≠ s.cfg.initAttempts) :
      Returned s (callCommand .initInit .initCmd 0#32 { s with att := s.att + 1#16 })
  | negotiating (caller : s.seq.caller = .initInit) :
      Returned s (callCommand .initApp .appCmd 0#32 { s with session := .negotiating })
  | appAccepted (caller : s.seq.caller = .initApp) : Returned s (callCommand .initOpCond .sdSendOpCond 0#32 s)
  | cardFast {card : Session} (caller : s.seq.caller = .initApp ∨ s.seq.caller = .initOpCond)
      (known : card = .sdCard ∨ card = .mmcCard) : Returned s (succeed { setClock .fast (deselect s) with session := card })
  | cardSlow (caller : s.seq.caller = .initApp ∨ s.seq.caller = .initOpCond) :
      Returned s (succeed { deselect s with session := .mmcCard })

theorem finishInit_returned {s : State} (sd : Bool) (caller : s.seq.caller = .initApp ∨ s.seq.caller = .initOpCond) :
    Returned s (finishInit sd s) := by
  cases sd with
  | true => exact .cardFast caller (.inl rfl)
  | false =>
    cases fast : s.cfg.mmcFastClock with
    | true => simpa [finishInit, fast] using Returned.cardFast caller (.inr rfl)
    | false => simpa [finishInit, fast] using Returned.cardSlow caller

theorem checkBlockResponse_returned {s : State} {rest : State → State} (caller : s.seq.caller ∈ [Caller.read, .rdpart, .write])
    (goesOn : Returned s (rest s)) : Returned s (checkBlockResponse rest s) := by
  unfold checkBlockResponse
  split
  · exact .timesOut (List.mem_cons_of_mem _ caller)
  · split
    · exact goesOn
    · exact .rejected caller

theorem attemptIdle_returned {s : State} (caller : s.seq.caller = .initIdle) : Returned s (attemptIdle s) := by
  by_cases last : s.att.toNat = s.cfg.idleAttempts
  · rw [Laws.attemptIdle_last last]
    exact .idleFailed caller last
  · rw [Laws.attemptIdle_next last]
    exact .idleAgain caller last

theorem attemptInit_returned {s : State} (caller : s.seq.caller = .initInit) : Returned s (attemptInit s) := by
  by_cases last : s.att.toNat = s.cfg.initAttempts
  · rw [Laws.attemptInit_last last]
    exact .initFailed caller last
  · rw [Laws.attemptInit_next last]
    exact .initAgain caller last

/-- A legal budget has a first attempt of INIT_CMD (R153). -/
theorem attemptInit_first {s : State} (legal : s.cfg.legal = true) :
    attemptInit { s with session := .idleEntered, att := 0#16 }
      = callCommand .initInit .initCmd 0#32 { s with session := .idleEntered, att := 1#16 } := by
  obtain ⟨-, -, ⟨attempts, -⟩, -⟩ := Laws.legal_bounds legal
  exact Laws.attemptInit_next (s := { s with session := .idleEntered, att := 0#16 }) (Nat.ne_of_lt attempts)

/-- And a first attempt of GO_IDLE (R152). -/
theorem attemptIdle_first {s : State} (legal : s.cfg.legal = true) :
    attemptIdle { select s with att := 0#16 } = callCommand .initIdle .goIdle 0#32 { select s with att := 1#16 } := by
  obtain ⟨-, ⟨attempts, -⟩, -⟩ := Laws.legal_bounds legal
  exact Laws.attemptIdle_next (s := { select s with att := 0#16 }) (Nat.ne_of_lt attempts)

theorem returnCommand_returned {s : State} (legal : s.cfg.legal = true) : Returned s (returnCommand s) := by
  unfold returnCommand
  cases caller : s.seq.caller with
  | sendcmd =>
    dsimp only
    split
    · exact .timesOut (by simp [caller])
    · exact .sendcmdDone caller
  | initIdle =>
    change Returned s (afterIdle s)
    unfold afterIdle
    split
    · rw [attemptInit_first legal]
      exact .idleEntered caller
    · exact attemptIdle_returned caller
  | initInit =>
    change Returned s (afterInit s)
    unfold afterInit
    split
    · exact .negotiating caller
    · exact attemptInit_returned caller
  | initApp =>
    change Returned s (afterApp s)
    unfold afterApp
    split
    · exact .appAccepted caller
    · exact finishInit_returned false (.inl caller)
  | initOpCond => exact finishInit_returned _ (.inr caller)
  | read => exact checkBlockResponse_returned (by simp [caller]) (.tokenWait (.inl caller))
  | rdpart => exact checkBlockResponse_returned (by simp [caller]) (.tokenWait (.inr caller))
  | write => exact checkBlockResponse_returned (by simp [caller]) (.writeData caller)

/-! ## The sequencer's step (R12) -/

/-- BUF after data byte `i` of a transfer: stored whole by a READ, and by an RDPART when it lies in the window (R180, R185). -/
inductive StoresByte (s : State) : Pos → State → Prop where
  | whole : StoresByte s .readData (storeBuf s.seq.i.toNat s.seq.rx s)
  | inside (window : inWindow s s.seq.i.toNat = true) :
      StoresByte s .partData (storeBuf (s.seq.i.toNat - s.offs.toNat) s.seq.rx s)
  | outside : StoresByte s .partData s

/-- Every step a sequencer's turn can make, by position: `t` is the state after it. -/
inductive SequencerStep (s : State) : State → Prop where
  | rests (pos : s.seq.pos = .idle) : SequencerStep s s
  | beginsInit (pos : s.seq.pos = .start .init) : SequencerStep s (beginInit s)
  | begins {caller : Caller} (c : Command) (arg : BitVec 32) (pos : s.seq.pos = .start (callerOp caller))
      (called : caller ∈ [Caller.sendcmd, .read, .rdpart, .write]) : SequencerStep s (callCommand caller c arg (select s))
  | filler (pos : s.seq.pos = .filler) (more : s.seq.j.toNat < s.cfg.powerupFillerBytes) :
      SequencerStep s (exchangeAt .filler fillerByte { s with seq := { s.seq with j := s.seq.j + 1#16 } })
  | firstIdle (pos : s.seq.pos = .filler) :
      SequencerStep s (callCommand .initIdle .goIdle 0#32 { select s with att := 1#16 })
  | frameByte {sent : Nat} (pos : s.seq.pos = .frame sent) (more : sent < 6) :
      SequencerStep s
        (exchangeAt (.frame (sent + 1)) (Sys2Proof.frameByte (frameWord (s.cfg.cmdByte s.seq.cmd) s.seq.arg) sent) s)
  | firstPoll {sent : Nat} (pos : s.seq.pos = .frame sent) (all : ¬ sent < 6) :
      SequencerStep s (exchangeAt .respPoll fillerByte (clearPolls s))
  | response (pos : s.seq.pos = .respPoll) (ready : s.seq.rx ≠ notReadyByte) : SequencerStep s (gotResponse s.seq.rx s)
  | pollsAgain (pos : s.seq.pos = .respPoll) (inside : (s.seq.n + 1#16).toNat < s.cfg.respPollBudget) :
      SequencerStep s (exchangeAt .respPoll fillerByte (countPoll s))
  | returns {u t : State} (returnsIn : ReturnsIn s u) (returned : Returned u t) : SequencerStep s t
  | token (pos : s.seq.pos = .tokenPoll) : SequencerStep s (tokenMatched s)
  | tokenAgain (pos : s.seq.pos = .tokenPoll) (inside : (s.seq.n + 1#16).toNat ≠ s.cfg.tokenPollBudget) :
      SequencerStep s (exchangeAt .tokenPoll fillerByte (countPoll s))
  | tokenFails {code : ErrCode} (pos : s.seq.pos = .tokenPoll) (named : code = .tokenTimeout ∨ code = .tokenMismatch) :
      SequencerStep s (failWith code (countPoll s))
  | dataByte {p : Pos} {u : State} (pos : s.seq.pos = p) (stores : StoresByte s p u) (more : s.seq.i.toNat < 511) :
      SequencerStep s (exchangeAt p fillerByte (setIndex (s.seq.i + 1#10) u))
  | lastByte {p : Pos} {u : State} (pos : s.seq.pos = p) (stores : StoresByte s p u) :
      SequencerStep s (exchangeAt .crcFirst fillerByte u)
  | crcSecond (pos : s.seq.pos = .crcFirst) : SequencerStep s (exchangeAt .crcSecond fillerByte s)
  | readFiller (pos : s.seq.pos = .crcSecond) : SequencerStep s (exchangeAt .trailer fillerByte s)
  | transferDone (pos : s.seq.pos = .trailer) : SequencerStep s (succeed (deselect s))
  | writeToken (pos : s.seq.pos = .writeDummy) : SequencerStep s (exchangeAt .writeToken dataStartToken s)
  | firstSend (pos : s.seq.pos = .writeToken) : SequencerStep s (sendData (setIndex 0#10 s))
  | sends (pos : s.seq.pos = .writeData) (more : s.seq.i.toNat < 511) :
      SequencerStep s (sendData (setIndex (s.seq.i + 1#10) s))
  | allSent (pos : s.seq.pos = .writeData) : SequencerStep s (exchangeAt .drespPoll fillerByte (clearPolls s))
  | accepted (pos : s.seq.pos = .drespPoll) :
      SequencerStep s (exchangeAt .busyPoll fillerByte (clearPolls (latchDataResponse s.seq.rx s)))
  | drespAgain (pos : s.seq.pos = .drespPoll) (inside : (s.seq.n + 1#16).toNat ≠ s.cfg.wrespPollBudget) :
      SequencerStep s (exchangeAt .drespPoll fillerByte (latchDataResponse s.seq.rx s))
  | drespFails {code : ErrCode} (pos : s.seq.pos = .drespPoll)
      (named : code = .wrCrcRejected ∨ code = .wrErrorRejected ∨ code = .wrRespTimeout) :
      SequencerStep s (failWith code (latchDataResponse s.seq.rx s))
  | busyAgain (pos : s.seq.pos = .busyPoll) (inside : (s.seq.n + 1#16).toNat ≠ s.cfg.busyPollBudget) :
      SequencerStep s (exchangeAt .busyPoll fillerByte (countPoll s))
  | busyFails (pos : s.seq.pos = .busyPoll) : SequencerStep s (failWith .busyTimeout (countPoll s))
  | ready (pos : s.seq.pos = .busyPoll) : SequencerStep s (exchangeAt .trailer fillerByte (countPoll s))

theorem beginOperation_sequencerStep {s : State} {op : Op} (pos : s.seq.pos = .start op) :
    SequencerStep s (beginOperation op s) := by
  cases op with
  | init => exact .beginsInit pos
  | sendcmd => exact .begins (caller := .sendcmd) _ _ pos (by decide)
  | read => exact .begins (caller := .read) _ _ pos (by decide)
  | rdpart => exact .begins (caller := .rdpart) _ _ pos (by decide)
  | write => exact .begins (caller := .write) _ _ pos (by decide)

theorem continueFiller_sequencerStep {s : State} (legal : s.cfg.legal = true) (pos : s.seq.pos = .filler) :
    SequencerStep s (continueFiller s) := by
  by_cases more : s.seq.j.toNat < s.cfg.powerupFillerBytes
  · rw [continueFiller_more more]
    exact .filler pos more
  · rw [continueFiller_done more, attemptIdle_first legal]
    exact .firstIdle pos

theorem continueFrame_sequencerStep {s : State} {sent : Nat} (pos : s.seq.pos = .frame sent) :
    SequencerStep s (continueFrame sent s) := by
  by_cases more : sent < 6
  · rw [Laws.continueFrame_more more]
    exact .frameByte pos more
  · rw [Laws.continueFrame_done more]
    exact .firstPoll pos more

theorem noResponse_sequencerStep {s : State} (legal : s.cfg.legal = true) (pos : s.seq.pos = .respPoll)
    (notReady : s.seq.rx = notReadyByte) : SequencerStep s (noResponse s) := by
  unfold noResponse
  dsimp only
  split
  next inside => exact .pollsAgain pos inside
  next last => exact .returns (.timeout pos notReady last) (returnCommand_returned legal)

theorem pollToken_sequencerStep {s : State} (pos : s.seq.pos = .tokenPoll) : SequencerStep s (pollToken (countPoll s)) := by
  unfold pollToken
  split
  next => exact .tokenFails pos (.inl rfl)
  next inside => exact .tokenAgain pos inside

theorem tokenOther_sequencerStep {s : State} (pos : s.seq.pos = .tokenPoll) : SequencerStep s (tokenOther s) := by
  unfold tokenOther
  split
  · exact pollToken_sequencerStep pos
  · exact .tokenFails pos (.inr rfl)

theorem nextData_sequencerStep {s u : State} {p : Pos} (pos : s.seq.pos = p) (stores : StoresByte s p u) (same : u.seq = s.seq) :
    SequencerStep s (nextData p u) := by
  by_cases more : s.seq.i.toNat < 511
  · rw [Laws.nextData_more (by rw [same]; exact more), same]
    exact .dataByte pos stores more
  · rw [Laws.nextData_done (by rw [same]; exact more)]
    exact .lastByte pos stores

theorem storePartData_sequencerStep {s : State} (pos : s.seq.pos = .partData) : SequencerStep s (storePartData s) := by
  unfold storePartData
  dsimp only
  split
  next window => exact nextData_sequencerStep pos (.inside window) rfl
  next => exact nextData_sequencerStep pos .outside rfl

theorem continueSendData_sequencerStep {s : State} (pos : s.seq.pos = .writeData) : SequencerStep s (continueSendData s) := by
  unfold continueSendData
  split
  next more => exact .sends pos more
  next => exact .allSent pos

theorem dataResponseNotYet_sequencerStep {s : State} (pos : s.seq.pos = .drespPoll) : SequencerStep s (dataResponseNotYet s) := by
  unfold dataResponseNotYet
  dsimp only
  split
  next => exact .drespFails pos (.inr (.inr rfl))
  next inside => exact .drespAgain pos inside

theorem cardBusy_sequencerStep {s : State} (pos : s.seq.pos = .busyPoll) : SequencerStep s (cardBusy s) := by
  unfold cardBusy
  dsimp only
  split
  next => exact .busyFails pos
  next inside => exact .busyAgain pos inside

/-- The byte of a data-response row is the received one (30_encoding.md R92). -/
theorem append_lowNibble {d : Byte} {lo : BitVec 4} (low : d.extractLsb' 0 4 = lo) : d.extractLsb' 4 4 ++ lo = d := by
  rw [← low, Laws.nibbles]

theorem step_drespPoll_sequencerStep {s : State} (legal : s.cfg.legal = true) (isCoherent : coherent s = true)
    (turn : nextTurn s = .sequencer) (pos : s.seq.pos = .drespPoll) :
    ∃ t, step s = .next t ∧ SequencerStep (turnTaken s) t := by
  obtain ⟨low, row⟩ | ⟨low, row⟩ | ⟨low, row⟩ | ⟨-, -, -, noRow⟩ := Laws.decodeDataResponse_cases s.seq.rx
  · refine ⟨_, Laws.step_drespPoll legal turn isCoherent pos row, ?_⟩
    rw [append_lowNibble low]
    exact .accepted pos
  · refine ⟨_, Laws.step_drespPoll legal turn isCoherent pos row, ?_⟩
    rw [append_lowNibble low]
    exact .drespFails pos (.inl rfl)
  · refine ⟨_, Laws.step_drespPoll legal turn isCoherent pos row, ?_⟩
    rw [append_lowNibble low]
    exact .drespFails pos (.inr (.inl rfl))
  · exact ⟨_, Laws.step_drespPoll_notYet legal turn isCoherent pos noRow, dataResponseNotYet_sequencerStep (s := turnTaken s) pos⟩

/-- The table is complete: in a coherent state a sequencer's turn does not stop and makes one of its steps. -/
theorem step_sequencerStep {s : State} (legal : s.cfg.legal = true) (isCoherent : coherent s = true) (turn : nextTurn s = .sequencer) :
    ∃ t, step s = .next t ∧ SequencerStep (turnTaken s) t := by
  cases pos : s.seq.pos with
  | idle => exact ⟨_, Laws.step_idle legal turn isCoherent pos, .rests pos⟩
  | start op => exact ⟨_, Laws.step_start legal turn isCoherent pos, beginOperation_sequencerStep (s := turnTaken s) pos⟩
  | filler => exact ⟨_, Laws.step_filler legal turn isCoherent pos, continueFiller_sequencerStep (s := turnTaken s) legal pos⟩
  | frame sent => exact ⟨_, Laws.step_frame legal turn isCoherent pos, continueFrame_sequencerStep (s := turnTaken s) pos⟩
  | respPoll =>
    by_cases notReady : s.seq.rx = notReadyByte
    · exact ⟨_, Laws.step_respPoll_notReady legal turn isCoherent pos notReady,
        noResponse_sequencerStep (s := turnTaken s) legal pos notReady⟩
    · exact ⟨_, Laws.step_respPoll_response legal turn isCoherent pos notReady, .response pos notReady⟩
  | respDummy =>
    exact ⟨_, Laws.step_respDummy legal turn isCoherent pos,
      .returns (.response pos) (returnCommand_returned (s := turnTaken s) legal)⟩
  | tokenPoll =>
    by_cases token : s.seq.rx = dataStartToken
    · exact ⟨_, Laws.step_tokenPoll_token legal turn isCoherent pos token, .token pos⟩
    · by_cases notReady : s.seq.rx = notReadyByte
      · exact ⟨_, Laws.step_tokenPoll_notReady legal turn isCoherent pos notReady, pollToken_sequencerStep (s := turnTaken s) pos⟩
      · exact ⟨_, Laws.step_tokenPoll_other legal turn isCoherent pos token notReady, tokenOther_sequencerStep (s := turnTaken s) pos⟩
  | readData => exact ⟨_, Laws.step_readData legal turn isCoherent pos, nextData_sequencerStep (s := turnTaken s) pos .whole rfl⟩
  | partData => exact ⟨_, Laws.step_partData legal turn isCoherent pos, storePartData_sequencerStep (s := turnTaken s) pos⟩
  | crcFirst => exact ⟨_, Laws.step_crcFirst legal turn isCoherent pos, .crcSecond pos⟩
  | crcSecond => exact ⟨_, Laws.step_crcSecond legal turn isCoherent pos, .readFiller pos⟩
  | trailer => exact ⟨_, Laws.step_trailer legal turn isCoherent pos, .transferDone pos⟩
  | writeDummy => exact ⟨_, Laws.step_writeDummy legal turn isCoherent pos, .writeToken pos⟩
  | writeToken => exact ⟨_, Laws.step_writeToken legal turn isCoherent pos, .firstSend pos⟩
  | writeData => exact ⟨_, Laws.step_writeData legal turn isCoherent pos, continueSendData_sequencerStep (s := turnTaken s) pos⟩
  | drespPoll => exact step_drespPoll_sequencerStep legal isCoherent turn pos
  | busyPoll =>
    by_cases busy : s.seq.rx = busyByte
    · exact ⟨_, Laws.step_busyPoll_busy legal turn isCoherent pos busy, cardBusy_sequencerStep (s := turnTaken s) pos⟩
    · exact ⟨_, Laws.step_busyPoll_ready legal turn isCoherent pos busy, .ready pos⟩

/-- A sequencer's turn in an incoherent state is a fault, so a step that answers was made in a coherent one (R37). -/
theorem coherent_of_step {s t : State} (turn : nextTurn s = .sequencer) (next : step s = .next t) : coherent s = true := by
  by_contra incoherent
  rw [Laws.step_sequencer (Laws.legal_of_step next) turn] at next
  simp [sequencerWork, incoherent, perform] at next

/-! ## The host's turns (40_protocol.md R120, 20_memory.md R65 to R69) -/

/-- Every step a turn of the host or its WAIT can make: `t` is the state after it. -/
inductive HostStep (s : State) : State → Prop where
  | ignored : HostStep s s
  | reads (a : BitVec 10) : HostStep s (hostRead a s)
  | stores (a : BitVec 10) (v : Byte) (rest : s.busy = false) : HostStep s (hostWrite a v s)
  | accepts {v d : Byte} {op : Op} (rest : s.busy = false) (named : (v &&& 0x77#8).extractLsb' 0 3 = opField op)
      (fits : sessionTransient s.session = false → placeFits (.start op) s.seq.caller s.session = true)
      (low : op = .sendcmd → (cmdsel (v &&& 0x77#8)).toNat < 4)
      (dresp : d = s.dresp ∨ (op = .write ∧ d = 0xFF#8)) : HostStep s (accept op { takeUp v s with dresp := d })
  | refuses {v : Byte} {code : ErrCode} (rest : s.busy = false) (named : code ≠ .none) :
      HostStep s (failWith code (takeUp v s))
  | waits : HostStep s (hostWait s)

/-- A request is ignored, refused with a named code, or accepted. -/
theorem request_hostStep {v : Byte} {check : State → Option ErrCode} {begin : State → State} {s : State}
    (named : check (takeUp v s) ≠ some .none)
    (accepts : s.busy = false → check (takeUp v s) = none → HostStep s (begin (takeUp v s))) :
    HostStep s (request v check begin s) := by
  cases busy : s.busy with
  | true =>
    rw [Laws.request_busy busy]
    exact .ignored
  | false =>
    cases checked : check (takeUp v s) with
    | none =>
      rw [Laws.request_accepted busy checked]
      exact accepts busy checked
    | some code =>
      rw [Laws.request_refused busy checked]
      exact .refuses busy fun noCode => named (by rw [checked, noCode])

/-- A check that refuses in one case names its code, and passes only outside that case. -/
theorem check_cases {c : Prop} [Decidable c] {code : ErrCode} (named : code ≠ .none) :
    ((if c then none else some code) ≠ some ErrCode.none) ∧ ((if c then none else some code) = none → c) := by
  by_cases holds : c <;> simp [holds, named]

theorem exec_request_hostStep {i : Instr} {s : State} (space : i.space = .request) : ∃ t, exec i s = .next t ∧ HostStep s t := by
  cases i
  case nop => exact ⟨_, rfl, .ignored⟩
  case init ignored =>
    obtain ⟨named, passes⟩ := check_cases (c := s.session = .uninitialized) (code := .seqError) (by decide)
    exact ⟨_, rfl, request_hostStep named fun rest checked =>
      .accepts rest (Laws.requestByte_op ignored 1#3) (fun _ => beq_iff_eq.mpr (passes checked)) nofun (.inl rfl)⟩
  case sendcmd sel r7 r3 =>
    obtain ⟨named, passes⟩ := check_cases (c := sel.toNat < 4) (code := .paramError) (by decide)
    obtain ⟨op, cmdselKept⟩ := Laws.sendcmdByte_fields sel r7 r3
    exact ⟨_, rfl, request_hostStep named fun rest checked =>
      .accepts rest op (fun still => by simp [placeFits, still]) (fun _ => by rw [cmdselKept]; exact passes checked) (.inl rfl)⟩
  case sendcmdBadsel => exact ⟨_, rfl, request_hostStep nofun fun _ passes => nomatch passes⟩
  case read ignored =>
    obtain ⟨named, passes⟩ := check_cases (c := sessionReady s.session = true) (code := .notReady) (by decide)
    exact ⟨_, rfl, request_hostStep named fun rest checked =>
      .accepts rest (Laws.requestByte_op ignored 3#3) (fun _ => passes checked) nofun (.inl rfl)⟩
  case rdpart ignored =>
    by_cases ready : sessionReady s.session = true
    · obtain ⟨named, -⟩ := check_cases (c := windowEnd s ≤ 512) (code := .paramError) (by decide)
      exact ⟨_, rfl, request_hostStep (by rw [Laws.takeUp_session, if_pos ready]; exact named) fun rest _ =>
        .accepts rest (Laws.requestByte_op ignored 4#3) (fun _ => ready) nofun (.inl rfl)⟩
    · have refused : (if sessionReady s.session = true then if windowEnd s ≤ 512 then none else some ErrCode.paramError
          else some .notReady) = some .notReady := if_neg ready
      exact ⟨_, rfl, request_hostStep (refused.trans_ne nofun) fun _ passes => nomatch refused.symm.trans passes⟩
  case write ignored =>
    obtain ⟨named, passes⟩ := check_cases (c := sessionReady s.session = true) (code := .notReady) (by decide)
    exact ⟨_, rfl, request_hostStep named fun rest checked =>
      .accepts rest (Laws.requestByte_op ignored 5#3) (fun _ => passes checked) nofun (.inr ⟨rfl, rfl⟩)⟩
  case reserved6 | reserved7 => exact ⟨_, rfl, request_hostStep nofun fun _ passes => nomatch passes⟩
  all_goals cases space

theorem hostAccess_hostStep {a : HostAccess} {s t : State} (next : hostAccess a s = .next t) : HostStep s t := by
  obtain ⟨addr, -, rfl⟩ | ⟨addr, v, -, rfl⟩ := Laws.hostAccess_next next
  · exact .reads addr
  · cases busy : s.busy with
    | true =>
      rw [hostWrite_of_busy addr v busy]
      exact .ignored
    | false => exact .stores addr v busy

theorem step_hostStep {s t : State} {a : HostAccess} (turn : nextTurn s = .host a) (next : step s = .next t) :
    HostStep (turnTaken s) t := by
  rw [Laws.step_host (Laws.legal_of_step next) turn] at next
  obtain ⟨v, request⟩ | access := hostWork_cases a
  · rw [request] at next
    obtain ⟨u, runs, hostStep⟩ := exec_request_hostStep (s := turnTaken s) (decodeRequest_space v)
    obtain rfl := Host.Outcome.next.inj (runs.symm.trans next)
    exact hostStep
  · rw [access] at next
    exact hostAccess_hostStep next

/-! ## Any step -/

/-- What a step that answers did, by whose turn it was. -/
inductive StepTaken (s t : State) : Prop where
  | reset (turn : nextTurn s = .reset) (after : t = resetBlock (turnTaken s))
  | sequencer (turn : nextTurn s = .sequencer) (isCoherent : coherent s = true) (took : SequencerStep (turnTaken s) t)
  | host (notReset : nextTurn s ≠ .reset) (notSequencer : nextTurn s ≠ .sequencer) (took : HostStep (turnTaken s) t)

theorem step_taken {s t : State} (next : step s = .next t) : StepTaken s t := by
  have legal := Laws.legal_of_step next
  cases turn : nextTurn s with
  | reset => exact .reset turn (Host.Outcome.next.inj ((Laws.step_reset legal turn).symm.trans next)).symm
  | wait =>
    obtain rfl := Host.Outcome.next.inj ((Laws.step_wait legal turn).symm.trans next)
    exact .host (by simp [turn]) (by simp [turn]) .waits
  | host a => exact .host (by simp [turn]) (by simp [turn]) (step_hostStep turn next)
  | sequencer =>
    have isCoherent := coherent_of_step turn next
    obtain ⟨u, runs, took⟩ := step_sequencerStep legal isCoherent turn
    obtain rfl := Host.Outcome.next.inj (runs.symm.trans next)
    exact .sequencer turn isCoherent took

/-! ## The shape of a sequencer's step -/

/-- The statements that lead from `s` to `u` make no exchange and leave the configuration, the parameters, BUSY, DONE, FAIL, ERR and all that
is outside the block alone. -/
structure Quiet (s u : State) : Prop where
  cfg : u.cfg = s.cfg := by rfl
  lastop : u.lastop = s.lastop := by rfl
  busy : u.busy = s.busy := by rfl
  done : u.done = s.done := by rfl
  fail : u.fail = s.fail := by rfl
  err : u.err = s.err := by rfl
  arg : u.arg = s.arg := by rfl
  offs : u.offs = s.offs := by rfl
  cnt : u.cnt = s.cnt := by rfl
  agenda : u.agenda = s.agenda := by rfl
  card : u.card = s.card := by rfl
  reads : u.reads = s.reads := by rfl
  bus : ∃ events, u.trace = s.trace ++ events ∧ exchanges events = 0 := by exact ⟨[], (List.append_nil _).symm, rfl⟩

/-- A failing check of `s` has led to `u` and its code: it wrote nothing but RESP at a timeout, DRESP at a data-response and SESSION at the end of
the attempts. -/
structure FailureRecorded (s : State) (code : ErrCode) (u : State) : Prop where
  kept : u = { s with resp := u.resp, dresp := u.dresp, session := u.session, seq := u.seq } := by rfl
  named : code ≠ .none := by decide
  resp : u.resp ≠ s.resp → u.resp = 0xFF#8 := by exact fun changed => absurd rfl changed
  dresp : u.dresp ≠ s.dresp → u.dresp = s.seq.rx := by exact fun changed => absurd rfl changed
  session : u.session ≠ s.session → u.session = .failed ∧ (code = .idleFailed ∨ code = .initFailed) := by
    exact fun changed => absurd rfl changed

/-- A sequencer's step rests, or after quiet statements begins a frame, makes another exchange, succeeds or fails. -/
inductive StepShape (s : State) : State → Prop where
  | rests (pos : s.seq.pos = .idle) : StepShape s s
  | begins {u : State} (c : Command) (arg : BitVec 32) (quiet : Quiet s u) (buf : u.buf = s.buf := by rfl)
      (draws : u.draws = s.draws := by rfl) : StepShape s (beginFrame c arg u)
  | continues {p : Pos} {tx : Byte} {u : State} (quiet : Quiet s u) (running : p ≠ .idle := by nofun)
      (inside : p ≠ .frame 1 := by nofun) : StepShape s (exchangeAt p tx u)
  | succeeds {u : State} (quiet : Quiet s u) : StepShape s (succeed u)
  | fails {code : ErrCode} {u : State} (recorded : FailureRecorded s code u) : StepShape s (failWith code u)

theorem Quiet.trans {s u t : State} (first : Quiet s u) (second : Quiet u t) : Quiet s t where
  cfg := second.cfg.trans first.cfg
  lastop := second.lastop.trans first.lastop
  busy := second.busy.trans first.busy
  done := second.done.trans first.done
  fail := second.fail.trans first.fail
  err := second.err.trans first.err
  arg := second.arg.trans first.arg
  offs := second.offs.trans first.offs
  cnt := second.cnt.trans first.cnt
  agenda := second.agenda.trans first.agenda
  card := second.card.trans first.card
  reads := second.reads.trans first.reads
  bus := by
    obtain ⟨before, traceBefore, noneBefore⟩ := first.bus
    obtain ⟨after, traceAfter, noneAfter⟩ := second.bus
    exact ⟨before ++ after, by rw [traceAfter, traceBefore, List.append_assoc], by rw [exchanges_append, noneBefore, noneAfter]⟩

theorem FailureRecorded.quiet {s u : State} {code : ErrCode} (recorded : FailureRecorded s code u) : Quiet s u := by
  rw [recorded.kept]
  exact {}

theorem Returned.shape {s t : State} (returned : Returned s t) : StepShape s t := by
  cases returned with
  | timesOut | rejected => exact .fails {}
  | sendcmdDone => exact .succeeds { bus := ⟨[.desel], rfl, rfl⟩ }
  | tokenWait | writeData => exact .continues {}
  | idleFailed => exact .fails { session := fun _ => ⟨rfl, .inl rfl⟩ }
  | initFailed => exact .fails { session := fun _ => ⟨rfl, .inr rfl⟩ }
  | idleAgain | idleEntered | initAgain | negotiating | appAccepted => exact .begins _ _ {}
  | cardFast => exact .succeeds { bus := ⟨[.desel, .clk .fast], List.append_assoc _ _ _, rfl⟩ }
  | cardSlow => exact .succeeds { bus := ⟨[.desel], rfl, rfl⟩ }

/-- A timeout, recorded in RESP, may stand before what the caller does. -/
theorem StepShape.after_return {s u t : State} (shape : StepShape u t) (returnsIn : ReturnsIn s u) : StepShape s t := by
  cases returnsIn with
  | response => exact shape
  | timeout pos =>
    have timeout : Quiet s (timedOutState s) := {}
    cases shape with
    | rests idle => exact absurd (pos.symm.trans idle) nofun
    | begins c arg quiet buf draws => exact .begins c arg (timeout.trans quiet) buf draws
    | continues quiet running inside => exact .continues (timeout.trans quiet) running inside
    | succeeds quiet => exact .succeeds (timeout.trans quiet)
    | fails recorded =>
      obtain ⟨kept, named, resp, dresp, session⟩ := recorded
      refine .fails ⟨kept, named, fun _ => ?_, dresp, session⟩
      by_contra other
      exact other (not_not.mp (mt resp other))

/-- Whether the byte was written or is drawn, sending it is one exchange. -/
theorem sendData_shape {s : State} (v : BitVec 10) : StepShape s (sendData (setIndex v s)) := by
  cases byte : Memory.read s.buf v.toNat with
  | some b =>
    rw [Laws.sendData_written (s := setIndex v s) byte]
    exact .continues {}
  | none =>
    rw [Laws.sendData_unwritten (s := setIndex v s) byte]
    exact .continues {}

/-- A byte of a frame: byte 0 begins it. -/
theorem frameByte_shape {s : State} (sent : Nat) :
    StepShape s (exchangeAt (.frame (sent + 1)) (frameByte (frameWord (s.cfg.cmdByte s.seq.cmd) s.seq.arg) sent) s) := by
  cases sent with
  | zero => exact .begins s.seq.cmd s.seq.arg {}
  | succ sent => exact .continues {} (inside := by simp)

theorem StoresByte.quiet {s u : State} {p : Pos} (stores : StoresByte s p u) : Quiet s u := by
  cases stores with
  | whole | inside | outside => exact {}

theorem StoresByte.dataPos {s u : State} {p : Pos} (stores : StoresByte s p u) : p = .readData ∨ p = .partData := by
  cases stores with
  | whole => exact .inl rfl
  | inside | outside => exact .inr rfl

theorem SequencerStep.shape {s t : State} (took : SequencerStep s t) : StepShape s t := by
  cases took with
  | rests pos => exact .rests pos
  | beginsInit => exact .continues { bus := ⟨[.clk .slow, .desel], List.append_assoc _ _ _, rfl⟩ }
  | begins c arg => exact .begins c arg { bus := ⟨[.sel], rfl, rfl⟩ }
  | firstIdle => exact .begins _ _ { bus := ⟨[.sel], rfl, rfl⟩ }
  | frameByte => exact frameByte_shape _
  | returns returnsIn returned => exact returned.shape.after_return returnsIn
  | token => exact .continues {} (by cases s.seq.caller <;> nofun) (by cases s.seq.caller <;> nofun)
  | tokenFails pos named => exact .fails { named := by obtain rfl | rfl := named <;> decide }
  | dataByte pos stores =>
    have stored : Quiet s (setIndex (s.seq.i + 1#10) _) := stores.quiet.trans {}
    obtain rfl | rfl := stores.dataPos <;> exact .continues stored
  | lastByte pos stores => exact .continues stores.quiet
  | firstSend | sends => exact sendData_shape _
  | transferDone => exact .succeeds { bus := ⟨[.desel], rfl, rfl⟩ }
  | drespFails pos named =>
    exact .fails { named := by obtain rfl | rfl | rfl := named <;> decide, dresp := fun _ => rfl }
  | busyFails => exact .fails {}
  | filler | firstPoll | response | pollsAgain | tokenAgain | crcSecond | readFiller | writeToken | allSent | accepted | drespAgain
  | busyAgain | ready => exact .continues {}

/-! ## The outcome of a step (20_memory.md R65, 10_state.md R37) -/

/-- The turns that wait after a host's turn waited before it, but for those of the host's WAIT (30_encoding.md R97). -/
theorem HostStep.agenda {s t : State} (took : HostStep s t) : t.agenda = s.agenda ∨ t.agenda = .sequencer :: .wait :: s.agenda := by
  cases took with
  | ignored | reads | accepts | refuses => exact .inl rfl
  | stores a v =>
    rw [Laws.hostWrite_keeps]
    exact .inl rfl
  | waits =>
    unfold hostWait
    dsimp only
    split
    · exact .inr rfl
    · exact .inl rfl

theorem HostStep.cfg {s t : State} (took : HostStep s t) : t.cfg = s.cfg := by
  cases took with
  | ignored | reads | accepts | refuses => rfl
  | stores a v => rw [Laws.hostWrite_keeps]
  | waits =>
    unfold hostWait
    dsimp only
    split <;> rfl

theorem HostStep.coherent_kept {s t : State} (took : HostStep s t) (isCoherent : coherent s = true) : coherent t = true := by
  cases took with
  | ignored | reads => exact isCoherent
  | stores a v =>
    rw [Laws.hostWrite_keeps]
    exact isCoherent
  | accepts | refuses => rfl
  | waits =>
    unfold hostWait
    dsimp only
    split <;> exact isCoherent

theorem StepShape.agenda {s t : State} (shape : StepShape s t) : t.agenda = s.agenda := by
  cases shape with
  | rests => rfl
  | begins _ _ quiet | continues quiet | succeeds quiet => exact quiet.agenda
  | fails recorded => exact recorded.quiet.agenda

theorem StepShape.cfg {s t : State} (shape : StepShape s t) : t.cfg = s.cfg := by
  cases shape with
  | rests => rfl
  | begins _ _ quiet | continues quiet | succeeds quiet => exact quiet.cfg
  | fails recorded => exact recorded.quiet.cfg

/-- An exchange leaves the operation running, and its end leaves the machine at rest. -/
theorem StepShape.coherent_kept {s t : State} (shape : StepShape s t) (isCoherent : coherent s = true)
    (running : s.seq.pos ≠ .idle) : coherent t = true := by
  have busy := (busy_iff_of_coherent isCoherent).mpr running
  cases shape with
  | rests => exact isCoherent
  | begins _ _ quiet => simp [coherent, beginFrame, quiet.busy, busy]
  | continues quiet away => simp [coherent, quiet.busy, busy, away]
  | succeeds | fails => rfl

/-- Every step keeps the configuration (R20). -/
theorem step_cfg {s t : State} (next : step s = .next t) : t.cfg = s.cfg := by
  cases step_taken next with
  | reset _ after => rw [after]; rfl
  | sequencer _ _ took => exact took.shape.cfg
  | host _ _ took => exact took.cfg

theorem step_coherent {s t : State} (isCoherent : coherent s = true) (next : step s = .next t) : coherent t = true := by
  cases step_taken next with
  | reset _ after => rw [after]; rfl
  | host _ _ took => exact took.coherent_kept isCoherent
  | sequencer turn _ took =>
    by_cases idle : s.seq.pos = .idle
    · obtain rfl := Host.Outcome.next.inj ((Laws.step_idle (Laws.legal_of_step next) turn isCoherent idle).symm.trans next)
      exact isCoherent
    · exact took.shape.coherent_kept isCoherent idle

/-- A turn that waits after a step waited before it, or is one of WAIT's. -/
theorem mem_agenda_of_step {s t : State} (next : step s = .next t) {waiting : Turn} (waits : waiting ∈ t.agenda) :
    waiting ∈ s.agenda ∨ waiting = .sequencer ∨ waiting = .wait := by
  cases step_taken next with
  | reset _ after =>
    rw [after] at waits
    exact .inl (List.mem_of_mem_tail waits)
  | sequencer _ _ took =>
    rw [took.shape.agenda] at waits
    exact .inl (List.mem_of_mem_tail waits)
  | host _ _ took =>
    obtain same | more := took.agenda
    · rw [same] at waits
      exact .inl (List.mem_of_mem_tail waits)
    · rw [more] at waits
      obtain rfl | rfl | before := by simpa using waits
      · exact .inr (.inl rfl)
      · exact .inr (.inr rfl)
      · exact .inl (List.mem_of_mem_tail before)

/-- The three causes of a stop are excluded. -/
theorem exists_step_of_safe {s : State} (safe : Safe s) : ∃ t, step s = .next t := by
  obtain ⟨legal, isCoherent, oneByte⟩ := safe
  cases turn : nextTurn s with
  | sequencer =>
    obtain ⟨t, next, -⟩ := step_sequencerStep legal isCoherent turn
    exact ⟨t, next⟩
  | wait => exact ⟨_, Laws.step_wait legal turn⟩
  | reset => exact ⟨_, Laws.step_reset legal turn⟩
  | host a =>
    have waits : Turn.host a ∈ s.agenda := by
      cases agenda : s.agenda with
      | nil => simp [nextTurn, agenda] at turn
      | cons first rest => simp_all [nextTurn]
    exact step_hostAccess_completes legal turn (oneByte _ waits)

/-- Settles O10: the causes of a stop are excluded, and each condition is kept. -/
theorem safeStatesNeverStop : Obligations.SafeStatesNeverStop := by
  intro s safe
  obtain ⟨t, next⟩ := exists_step_of_safe safe
  obtain ⟨legal, isCoherent, oneByte⟩ := safe
  refine ⟨t, next, by rw [step_cfg next]; exact legal, step_coherent isCoherent next, fun waiting waits => ?_⟩
  obtain before | rfl | rfl := mem_agenda_of_step next waits
  · exact oneByte waiting before
  · rfl
  · rfl

/-! ## The bus (R12, R13) -/

theorem HostStep.bus {s t : State} (took : HostStep s t) : t.trace = s.trace ∨ (s.busy = false ∧ t.trace = deselectedTrace s) := by
  cases took with
  | ignored | reads | accepts => exact .inl rfl
  | stores a v =>
    rw [Laws.hostWrite_keeps]
    exact .inl rfl
  | refuses rest => exact .inr ⟨rest, rfl⟩
  | waits =>
    unfold hostWait
    dsimp only
    split <;> exact .inl rfl

theorem deselectedTrace_events (s : State) : ∃ events, deselectedTrace s = s.trace ++ events ∧ exchanges events = 0 := by
  unfold deselectedTrace
  split
  · exact ⟨[.desel], rfl, rfl⟩
  · exact ⟨[], (List.append_nil _).symm, rfl⟩

theorem exchange_events {s u : State} (quiet : Quiet s u) (p : Pos) (tx : Byte) :
    ∃ events, (exchangeAt p tx u).trace = s.trace ++ events ∧ exchanges events = 1 := by
  obtain ⟨events, trace, none⟩ := quiet.bus
  refine ⟨events ++ [.x tx (u.answer tx)], ?_, ?_⟩
  · rw [Laws.exchangeAt_trace, trace, List.append_assoc]
  · rw [exchanges_append, none]
    rfl

theorem StepShape.bus {s t : State} (shape : StepShape s t) : ∃ events, t.trace = s.trace ++ events ∧ exchanges events ≤ 1 := by
  cases shape with
  | rests => exact ⟨[], (List.append_nil _).symm, by decide⟩
  | begins _ _ quiet =>
    obtain ⟨events, trace, one⟩ := exchange_events quiet (.frame 1) _
    exact ⟨events, trace, one.le⟩
  | continues quiet =>
    obtain ⟨events, trace, one⟩ := exchange_events quiet _ _
    exact ⟨events, trace, one.le⟩
  | succeeds quiet =>
    obtain ⟨events, trace, none⟩ := quiet.bus
    exact ⟨events, trace, none.trans_le (by decide)⟩
  | @fails code u recorded =>
    obtain ⟨before, traceBefore, noneBefore⟩ := recorded.quiet.bus
    obtain ⟨events, trace, none⟩ := deselectedTrace_events u
    refine ⟨before ++ events, ?_, by rw [exchanges_append, noneBefore, none]; decide⟩
    rw [Laws.failWith_deselectedTrace, trace, traceBefore, List.append_assoc]

/-- Settles O13: a sequencer's step has a shape, and a host's step puts at most the `DESEL` of a refusal on the bus, which a machine at rest
has no use for. -/
theorem oneExchangePerStep : Obligations.OneExchangePerStep := by
  intro s t next notReset
  cases step_taken next with
  | reset turn => exact absurd turn notReset
  | sequencer turn _ took => exact ⟨took.shape.bus, fun _ notSequencer => absurd turn notSequencer⟩
  | host _ _ took =>
    obtain same | ⟨rest, trace⟩ := took.bus
    · exact ⟨⟨[], by rw [same, List.append_nil]; rfl, by decide⟩, fun _ _ => same⟩
    · obtain ⟨events, appended, none⟩ := deselectedTrace_events (turnTaken s)
      refine ⟨⟨events, trace.trans appended, none.trans_le (by decide)⟩, fun inv _ => ?_⟩
      rw [trace, deselectedTrace, Laws.turnTaken_sel, sel_of_not_busy inv rest]
      rfl

/-! ## The card's answers -/

/-- An exchange receives the queue's next answer, which it uses up, or the oracle's. -/
theorem exchangeAt_answer (p : Pos) (tx : Byte) (u : State) :
    (u.card = (exchangeAt p tx u).seq.rx :: (exchangeAt p tx u).card)
      ∨ (u.card = [] ∧ (exchangeAt p tx u).card = [] ∧ ∃ k, (exchangeAt p tx u).draws = k + 1
          ∧ (exchangeAt p tx u).seq.rx = Config.cardOracle k u.trace tx) := by
  cases card : u.card with
  | nil => exact .inr ⟨rfl, by simp [card], u.draws, by simp [card], by simp [State.answer, card]⟩
  | cons b rest => exact .inl (by simp [card, State.answer])

theorem Quiet.exchanges_eq {s u : State} (quiet : Quiet s u) : exchanges u.trace = exchanges s.trace := by
  obtain ⟨events, trace, none⟩ := quiet.bus
  rw [trace, exchanges_append, none]
  rfl

theorem exchanges_deselectedTrace (s : State) : exchanges (deselectedTrace s) = exchanges s.trace := by
  obtain ⟨events, trace, none⟩ := deselectedTrace_events s
  rw [trace, exchanges_append, none]
  rfl

/-- After quiet statements an exchange takes its answer from the card of the step's beginning. -/
theorem exchange_takes_answer {s u : State} (quiet : Quiet s u) (p : Pos) (tx : Byte) :
    ∃ before sent, (exchangeAt p tx u).trace = before ++ [.x sent (exchangeAt p tx u).seq.rx]
      ∧ exchanges before = exchanges s.trace
      ∧ (s.card = (exchangeAt p tx u).seq.rx :: (exchangeAt p tx u).card
        ∨ (s.card = [] ∧ (exchangeAt p tx u).card = [] ∧ ∃ k, (exchangeAt p tx u).draws = k + 1
            ∧ (exchangeAt p tx u).seq.rx = Config.cardOracle k before sent)) :=
  ⟨u.trace, tx, rfl, quiet.exchanges_eq, quiet.card ▸ exchangeAt_answer p tx u⟩

/-- Settles O15: by the shape of the sequencer's step. -/
theorem exchangeTakesCardAnswer : Obligations.ExchangeTakesCardAnswer := by
  intro s t next turn
  cases step_taken next with
  | reset reset => simp [turn] at reset
  | host _ notSequencer => exact absurd turn notSequencer
  | sequencer _ _ took =>
    cases took.shape with
    | rests => exact .inl ⟨rfl, rfl⟩
    | begins _ _ quiet => exact .inr (exchange_takes_answer (s := turnTaken s) quiet (.frame 1) _)
    | continues quiet => exact .inr (exchange_takes_answer (s := turnTaken s) quiet _ _)
    | succeeds quiet => exact .inl ⟨quiet.exchanges_eq, quiet.card⟩
    | fails recorded => exact .inl ⟨(exchanges_deselectedTrace _).trans recorded.quiet.exchanges_eq, recorded.quiet.card⟩

/-! ## The parameters (10_state.md R23, R30 to R32) -/

/-- Settles O56: the sequencer's statements are quiet, and of the host's turns only a write touches the parameters. -/
theorem operationsKeepParameters : Obligations.OperationsKeepParameters := by
  intro s t next
  refine ⟨step_cfg next, fun notReset notWrite => ?_⟩
  have legal := Laws.legal_of_step next
  cases turn : nextTurn s with
  | reset => exact absurd turn notReset
  | wait =>
    obtain rfl := Host.Outcome.next.inj ((Laws.step_wait legal turn).symm.trans next)
    unfold hostWait
    dsimp only
    split <;> exact ⟨rfl, rfl, rfl, rfl⟩
  | host a =>
    cases a with
    | write a w v => exact absurd turn (notWrite a w v)
    | read a w =>
      rw [Laws.step_host legal turn] at next
      obtain ⟨addr, -, rfl⟩ | ⟨addr, v, write, -⟩ := Laws.hostAccess_next (s := turnTaken s) next
      · exact ⟨rfl, rfl, rfl, rfl⟩
      · cases write
  | sequencer =>
    cases step_taken next with
    | reset reset => simp [turn] at reset
    | host _ notSequencer => exact absurd turn notSequencer
    | sequencer _ _ took =>
      cases took.shape with
      | rests => exact ⟨rfl, rfl, rfl, rfl⟩
      | begins _ _ quiet => exact ⟨quiet.arg, quiet.offs, quiet.cnt, quiet.lastop⟩
      | continues quiet | succeeds quiet => exact ⟨quiet.arg, quiet.offs, quiet.cnt, quiet.lastop⟩
      | fails recorded => exact ⟨recorded.quiet.arg, recorded.quiet.offs, recorded.quiet.cnt, recorded.quiet.lastop⟩

/-! ## The steps that begin a frame (40_protocol.md R124) -/

/-- Settles O59: only one shape ends after byte 0 of a frame, and it is the row of that frame. -/
theorem stepsThatBeginAFrameRunItsRow : Obligations.StepsThatBeginAFrameRunItsRow := by
  intro s t next turn pos
  cases step_taken next with
  | reset reset => simp [turn] at reset
  | host _ notSequencer => exact absurd turn notSequencer
  | sequencer _ isCoherent took =>
    cases took.shape with
    | rests idle => exact absurd (idle.symm.trans pos) nofun
    | @begins u c arg quiet buf draws =>
      exact ⟨u, next.trans (exec_frameInstr c arg u).symm, quiet.exchanges_eq, quiet.card, draws, quiet.cfg, buf, quiet.lastop,
        quiet.arg, quiet.offs, quiet.cnt, quiet.reads⟩
    | continues _ _ inside => exact absurd pos inside
    | succeeds | fails => exact absurd pos nofun

end Sys2Proof.Proofs
end

section
/-! The invariant holds at reset and is kept by every step (10_state.md R23, R24, R37; 40_protocol.md R120, R136; 41_session.md R155, R158, R159). -/

namespace Sys2Proof.Proofs

open Sys2Proof.Machine

/-! ## At reset -/

/-- Settles O11: nothing runs at reset, so every clause about a running operation is empty. -/
theorem invariantAtReset : Obligations.InvariantAtReset :=
  Laws.blockInv_of_check Laws.reset_buf_wf (by decide)

/-! ## The invariant does not see what is outside the block -/

/-- The bus trace, the turns, the card's answers, the host's reads and the draws may change, and the host may write the parameters. -/
theorem blockInv_outside {s : State} (inv : BlockInv s) (trace : List BusEvent) (agenda : List Turn) (card : List Byte)
    (reads : List HostRead) (draws : Nat) (arg : BitVec 32) (offs cnt : BitVec 10) :
    BlockInv { s with trace := trace, agenda := agenda, card := card, reads := reads, draws := draws,
                      arg := arg, offs := offs, cnt := cnt } :=
  ⟨inv.bufCanonical, inv.positionCoherent, inv.selOnlyBusy, inv.busyNotDone, inv.failDone, inv.errNamed, inv.lastopReserved,
    inv.lastopRuns, inv.sendcmdAllowed, inv.fastOnlyReady, inv.placed, inv.counters, inv.attempts, inv.responseLatched⟩

theorem blockInv_turnTaken {s : State} (inv : BlockInv s) : BlockInv (turnTaken s) := blockInv_outside inv _ _ _ _ _ _ _ _

/-! ## The three ways a step ends -/

/-- What an operation at rest keeps: BUF, LASTOP, the clock and the session. -/
structure RestFit (s : State) : Prop where
  bufCanonical : Memory.wf s.buf
  lastopReserved : s.lastop &&& 0x88#8 = 0#8
  fastOnlyReady : s.clkfast = true → sessionReady s.session = true
  settled : sessionTransient s.session = false

theorem blockInv_succeed {s : State} (fit : RestFit s) (released : s.sel = false) : BlockInv (succeed s) where
  bufCanonical := fit.bufCanonical
  positionCoherent := rfl
  selOnlyBusy selected := by simp [released] at selected
  busyNotDone := nofun
  failDone := nofun
  errNamed := by simp
  lastopReserved := fit.lastopReserved
  lastopRuns _ := nofun
  sendcmdAllowed := nofun
  fastOnlyReady := fit.fastOnlyReady
  placed := by simp [placeFits, fit.settled]
  counters := rfl
  attempts := rfl
  responseLatched := nofun

theorem blockInv_failWith {s : State} {code : ErrCode} (fit : RestFit s) (named : code ≠ .none) : BlockInv (failWith code s) where
  bufCanonical := fit.bufCanonical
  positionCoherent := rfl
  selOnlyBusy := nofun
  busyNotDone := nofun
  failDone _ := rfl
  errNamed := by simp [named]
  lastopReserved := fit.lastopReserved
  lastopRuns _ := nofun
  sendcmdAllowed := nofun
  fastOnlyReady := fit.fastOnlyReady
  placed := by simp [placeFits, fit.settled]
  counters := rfl
  attempts := rfl
  responseLatched := nofun

/-- After an exchange the operation runs on: what the statements before it must have kept, and what must fit the new position. -/
theorem blockInv_exchangeAt {s u : State} {p : Pos} {tx : Byte} (inv : BlockInv s) (running : s.seq.pos ≠ .idle) (quiet : Quiet s u)
    (bufCanonical : Memory.wf u.buf) (fastOnlyReady : u.clkfast = true → sessionReady u.session = true)
    (away : p ≠ .idle) (begun : p ≠ .start .sendcmd) (sameOp : runningOp p u.seq.caller = runningOp s.seq.pos s.seq.caller)
    (placed : placeFits p u.seq.caller u.session = true) (counters : countersFit (exchangeAt p tx u) = true)
    (attempts : attemptsFit (exchangeAt p tx u) = true)
    (latched : p = .respDummy → u.seq.timedout = false ∧ u.seq.r = u.resp ∧ u.seq.r ≠ notReadyByte) :
    BlockInv (exchangeAt p tx u) := by
  have busy : u.busy = true := quiet.busy.trans (busy_of_running inv running)
  obtain ⟨notDone, clear⟩ := inv.busyNotDone (busy_of_running inv running)
  have noErr : s.err = .none := (runsCleanly_of_inv inv (busy_of_running inv running)).err
  exact {
    bufCanonical := bufCanonical
    positionCoherent := by simp [coherent, busy, away]
    selOnlyBusy := fun _ => busy
    busyNotDone := fun _ => ⟨quiet.done.trans notDone, quiet.fail.trans clear⟩
    failDone := by simp [quiet.fail, clear]
    errNamed := by simp [quiet.fail, clear, quiet.err, noErr]
    lastopReserved := by rw [Laws.exchangeAt_lastop, quiet.lastop]; exact inv.lastopReserved
    lastopRuns := fun op runs => by
      rw [Laws.exchangeAt_lastop, quiet.lastop]
      exact inv.lastopRuns op (sameOp.symm.trans runs)
    sendcmdAllowed := fun started => absurd started begun
    fastOnlyReady := fastOnlyReady
    placed := placed
    counters := counters
    attempts := attempts
    responseLatched := latched }

/-- A call of SendCommand is an exchange that stands in the frame. -/
theorem blockInv_callCommand {s u : State} {caller : Caller} {c : Command} {arg : BitVec 32} (inv : BlockInv s)
    (running : s.seq.pos ≠ .idle) (quiet : Quiet s u) (bufCanonical : Memory.wf u.buf)
    (fastOnlyReady : u.clkfast = true → sessionReady u.session = true)
    (sameOp : runningOp s.seq.pos s.seq.caller = some (callerOp caller)) (placed : callerSession caller u.session = true)
    (attempts : attemptsFit (callCommand caller c arg u) = true) : BlockInv (callCommand caller c arg u) := by
  have latches : Quiet u { u with seq := { u.seq with caller := caller, cmd := c, arg := arg } } := {}
  exact blockInv_exchangeAt inv running (quiet.trans latches) bufCanonical fastOnlyReady nofun nofun sameOp.symm placed rfl attempts
    nofun

theorem not_transient_of_ready {x : Session} (ready : sessionReady x = true) : sessionTransient x = false := by
  cases x with
  | sdCard | mmcCard => rfl
  | uninitialized | poweringUp | idleEntered | negotiating | failed => cases ready

/-- Outside INIT's call sites the session is settled. -/
theorem settled_of_callerSession {c : Caller} {x : Session} (called : callerSession c x = true) (notInit : callerOp c ≠ .init) :
    sessionTransient x = false := by
  by_contra transient
  exact notInit (callerOp_of_transient called (by simpa using transient))

/-- The clock is slow outside the card sessions (R155). -/
theorem clkfast_eq_false {s : State} (inv : BlockInv s) (notReady : sessionReady s.session = false) : s.clkfast = false := by
  by_contra fast
  simp [inv.fastOnlyReady (by simpa using fast)] at notReady

/-! ## After the return of SendCommand -/

/-- Nothing but RESP and the hidden values has changed where SendCommand returns, and the call site is the same. -/
theorem ReturnsIn.eq {s u : State} (returnsIn : ReturnsIn s u) :
    ∃ x q, u = { s with resp := x, seq := q } ∧ q.caller = s.seq.caller := by
  cases returnsIn with
  | response => exact ⟨s.resp, s.seq, rfl, rfl⟩
  | timeout => exact ⟨_, _, rfl, rfl⟩

/-- SendCommand returns from the poll or from the dummy exchange. -/
theorem ReturnsIn.pos {s u : State} (returnsIn : ReturnsIn s u) : s.seq.pos = .respDummy ∨ s.seq.pos = .respPoll := by
  cases returnsIn with
  | response pos => exact .inl pos
  | timeout pos => exact .inr pos

/-- What the invariant says at either point. -/
theorem ReturnsIn.fits {s u : State} (returnsIn : ReturnsIn s u) (inv : BlockInv s) :
    s.seq.pos ≠ .idle ∧ runningOp s.seq.pos s.seq.caller = some (callerOp s.seq.caller)
      ∧ callerSession s.seq.caller s.session = true
      ∧ (s.seq.caller = .initIdle → 1 ≤ s.att.toNat ∧ s.att.toNat ≤ s.cfg.idleAttempts)
      ∧ (s.seq.caller = .initInit → 1 ≤ s.att.toNat ∧ s.att.toNat ≤ s.cfg.initAttempts) := by
  have placed := inv.placed
  have attempts := inv.attempts
  obtain pos | pos := returnsIn.pos
  · simp only [pos, placeFits, attemptsFit] at placed attempts ⊢
    refine ⟨nofun, rfl, placed, fun caller => ?_, fun caller => ?_⟩ <;> simpa [caller] using attempts
  · simp only [pos, placeFits, attemptsFit] at placed attempts ⊢
    refine ⟨nofun, rfl, placed, fun caller => ?_, fun caller => ?_⟩ <;> simpa [caller] using attempts

/-- ATT counts an attempt of step 2 or 3 within its budget. -/
theorem attemptsFit_idle {s : State} {c : Command} {arg : BitVec 32} (counts : 1 ≤ s.att.toNat)
    (inside : s.att.toNat ≤ s.cfg.idleAttempts) :
    attemptsFit (callCommand .initIdle c arg s) = true :=
  Bool.and_eq_true_iff.mpr ⟨decide_eq_true counts, decide_eq_true inside⟩

theorem attemptsFit_init {s : State} {c : Command} {arg : BitVec 32} (counts : 1 ≤ s.att.toNat)
    (inside : s.att.toNat ≤ s.cfg.initAttempts) :
    attemptsFit (callCommand .initInit c arg s) = true :=
  Bool.and_eq_true_iff.mpr ⟨decide_eq_true counts, decide_eq_true inside⟩

/-- READ and RDPART stand in the token wait in a card session. -/
theorem fits_tokenPoll {c : Caller} {x : Session} (caller : c = .read ∨ c = .rdpart) (called : callerSession c x = true) :
    placeFits .tokenPoll c x = true := by
  obtain rfl | rfl := caller <;> exact called

theorem returned_blockInv {s u t : State} (legal : s.cfg.legal = true) (inv : BlockInv s) (returnsIn : ReturnsIn s u)
    (returned : Returned u t) : BlockInv t := by
  obtain ⟨running, sameOp, placed, idleAttempts, initAttempts⟩ := returnsIn.fits inv
  obtain ⟨x, q, rfl, sameCaller⟩ := returnsIn.eq
  obtain ⟨-, ⟨idleBudget, idleMax⟩, ⟨initBudget, initMax⟩, ⟨tokenBudget, -⟩, -⟩ := Laws.legal_bounds legal
  have quiet : Quiet s { s with resp := x, seq := q } := {}
  have calledFrom {c : Caller} (caller : q.caller = c) :
      callerSession c s.session = true ∧ runningOp s.seq.pos s.seq.caller = some (callerOp c) := by
    have callSite := sameCaller.symm.trans caller
    exact ⟨callSite ▸ placed, sameOp.trans (by rw [callSite])⟩
  have settled {c : Caller} (caller : q.caller = c) (notInit : callerOp c ≠ .init) : RestFit { s with resp := x, seq := q } :=
    ⟨inv.bufCanonical, inv.lastopReserved, inv.fastOnlyReady, settled_of_callerSession (calledFrom caller).1 notInit⟩
  cases returned with
  | timesOut caller =>
    refine blockInv_failWith ?_ nofun
    simp only [List.mem_cons, List.not_mem_nil, or_false] at caller
    obtain caller | caller | caller | caller := caller <;> exact settled caller nofun
  | rejected caller =>
    refine blockInv_failWith ?_ nofun
    simp only [List.mem_cons, List.not_mem_nil, or_false] at caller
    obtain caller | caller | caller := caller <;> exact settled caller nofun
  | sendcmdDone caller =>
    obtain ⟨buf, lastop, clock, session⟩ := settled caller nofun
    exact blockInv_succeed ⟨buf, lastop, clock, session⟩ rfl
  | tokenWait caller =>
    exact blockInv_exchangeAt inv running (quiet.trans {}) inv.bufCanonical inv.fastOnlyReady nofun nofun
      (calledFrom rfl).2.symm (fits_tokenPoll caller (calledFrom rfl).1) (decide_eq_true tokenBudget) rfl nofun
  | writeData caller =>
    refine blockInv_exchangeAt inv running quiet inv.bufCanonical inv.fastOnlyReady nofun nofun (calledFrom rfl).2.symm ?_ rfl rfl nofun
    exact Bool.and_eq_true_iff.mpr ⟨beq_iff_eq.mpr caller, (calledFrom caller).1⟩
  | idleFailed caller | initFailed caller =>
    have session := (calledFrom caller).1
    have slow := clkfast_eq_false inv (by rw [eq_of_beq session]; rfl)
    exact blockInv_failWith ⟨inv.bufCanonical, inv.lastopReserved, fun fast => by simp [slow] at fast, rfl⟩ nofun
  | idleAgain caller more =>
    obtain ⟨session, sameOp⟩ := calledFrom caller
    obtain ⟨-, le⟩ := idleAttempts (sameCaller.symm.trans caller)
    have counted := Laws.count_toNat (n := s.att) (b := s.cfg.idleAttempts) (lt_of_le_of_ne le more) idleMax
    refine blockInv_callCommand inv running (quiet.trans {}) inv.bufCanonical inv.fastOnlyReady sameOp session
      (attemptsFit_idle ?_ ?_) <;> dsimp only at more ⊢ <;> omega
  | idleEntered caller =>
    obtain ⟨session, sameOp⟩ := calledFrom caller
    have slow := clkfast_eq_false inv (by rw [eq_of_beq session]; rfl)
    exact blockInv_callCommand inv running (quiet.trans {}) inv.bufCanonical (fun fast => by simp [slow] at fast) sameOp rfl
      (attemptsFit_init (Nat.le_refl 1) initBudget)
  | initAgain caller more =>
    obtain ⟨session, sameOp⟩ := calledFrom caller
    obtain ⟨-, le⟩ := initAttempts (sameCaller.symm.trans caller)
    have counted := Laws.count_toNat (n := s.att) (b := s.cfg.initAttempts) (lt_of_le_of_ne le more) initMax
    refine blockInv_callCommand inv running (quiet.trans {}) inv.bufCanonical inv.fastOnlyReady sameOp session
      (attemptsFit_init ?_ ?_) <;> dsimp only at more ⊢ <;> omega
  | negotiating caller =>
    obtain ⟨session, sameOp⟩ := calledFrom caller
    have slow := clkfast_eq_false inv (by rw [eq_of_beq session]; rfl)
    exact blockInv_callCommand inv running (quiet.trans {}) inv.bufCanonical (fun fast => by simp [slow] at fast) sameOp rfl rfl
  | appAccepted caller =>
    obtain ⟨session, sameOp⟩ := calledFrom caller
    exact blockInv_callCommand inv running (quiet.trans {}) inv.bufCanonical inv.fastOnlyReady sameOp session rfl
  | cardFast caller known =>
    have ready := sessionReady_of_card known
    exact blockInv_succeed ⟨inv.bufCanonical, inv.lastopReserved, fun _ => ready, not_transient_of_ready ready⟩ rfl
  | cardSlow =>
    exact blockInv_succeed ⟨inv.bufCanonical, inv.lastopReserved, fun _ => rfl, rfl⟩ rfl

/-! ## Every step -/

/-- An exchange between two positions of a running command or transfer: the call site, the session and the clock are kept, and the counters must
fit the new position. -/
theorem blockInv_goesOn {s u : State} {p p' : Pos} {tx : Byte} (inv : BlockInv s) (pos : s.seq.pos = p)
    (counters : countersFit (exchangeAt p' tx u) = true) (quiet : Quiet s u := by exact {})
    (bufCanonical : u.buf = s.buf ∨ Memory.wf u.buf := by exact .inl rfl) (caller : u.seq.caller = s.seq.caller := by rfl)
    (session : u.session = s.session := by rfl) (clock : u.clkfast = s.clkfast := by rfl)
    (before : ∀ c, runningOp p c = some (callerOp c) := by exact fun _ => rfl)
    (after : ∀ c, runningOp p' c = some (callerOp c) := by exact fun _ => rfl)
    (placed : placeFits p s.seq.caller s.session = true → placeFits p' s.seq.caller s.session = true := by exact id)
    (attempts : attemptsFit (exchangeAt p' tx u) = true := by rfl)
    (latched : p' = .respDummy → u.seq.timedout = false ∧ u.seq.r = u.resp ∧ u.seq.r ≠ notReadyByte := by nofun) :
    BlockInv (exchangeAt p' tx u) := by
  have running : s.seq.pos ≠ .idle := fun idle => by
    obtain rfl := pos.symm.trans idle
    exact nomatch before .sendcmd
  have away : p' ≠ .idle := by rintro rfl; exact nomatch after .sendcmd
  have begun : p' ≠ .start .sendcmd := by rintro rfl; exact nomatch after .read
  have fits : placeFits p' s.seq.caller s.session = true := placed (pos ▸ inv.placed)
  refine blockInv_exchangeAt inv running quiet ?_ (by rw [clock, session]; exact inv.fastOnlyReady) away begun ?_ ?_ counters
    attempts latched
  · obtain same | canonical := bufCanonical
    · rw [same]
      exact inv.bufCanonical
    · exact canonical
  · rw [caller, pos, before, after]
  · rw [caller, session]
    exact fits

/-- A counter below its budget that does not reach it stays below it. -/
theorem count_lt {n : BitVec 16} {b : Nat} (below : n.toNat < b) (max : b ≤ 65535) (inside : (n + 1#16).toNat ≠ b) :
    (n + 1#16).toNat < b := by
  have counted := Laws.count_toNat below max
  omega

/-- Whether the byte is written or drawn, its exchange goes on with the write data phase. -/
theorem sendData_blockInv {s : State} {p : Pos} (inv : BlockInv s) (pos : s.seq.pos = p) (v : BitVec 10) (inside : v.toNat < 512)
    (before : ∀ c, runningOp p c = some (callerOp c)) (placed : placeFits p s.seq.caller s.session = true →
      placeFits .writeData s.seq.caller s.session = true) : BlockInv (sendData (setIndex v s)) := by
  cases byte : Memory.read s.buf v.toNat with
  | some b =>
    rw [Laws.sendData_written (s := setIndex v s) byte]
    exact blockInv_goesOn inv pos (decide_eq_true inside) (before := before) (placed := placed)
  | none =>
    rw [Laws.sendData_unwritten (s := setIndex v s) byte]
    exact blockInv_goesOn inv pos (decide_eq_true inside) (before := before) (placed := placed)

/-- The sector transfers run in a card session, which is settled. -/
theorem settled_of_transfer {p : Pos} {c : Caller} {x : Session} (placed : placeFits p c x = true)
    (transfer : p ∈ [Pos.tokenPoll, .trailer, .drespPoll, .busyPoll]) : sessionTransient x = false := by
  simp only [List.mem_cons, List.not_mem_nil, or_false] at transfer
  obtain rfl | rfl | rfl | rfl := transfer <;> exact not_transient_of_ready (Bool.and_eq_true_iff.mp placed).2

/-- The checksum exchanges follow the data of either read, and the filler byte follows both transfers. -/
theorem placeFits_crcFirst {p : Pos} {c : Caller} {x : Session} (data : p = .readData ∨ p = .partData) (fits : placeFits p c x = true) :
    placeFits .crcFirst c x = true := by
  obtain rfl | rfl := data <;> simp_all [placeFits]

theorem placeFits_trailer_of_read {c : Caller} {x : Session} (fits : placeFits .crcSecond c x = true) :
    placeFits .trailer c x = true := by
  simp only [placeFits, Bool.and_eq_true, Bool.or_eq_true] at fits ⊢
  exact ⟨.inl fits.1, fits.2⟩

theorem placeFits_trailer_of_write {c : Caller} {x : Session} (fits : placeFits .busyPoll c x = true) :
    placeFits .trailer c x = true := by
  simp only [placeFits, Bool.and_eq_true, Bool.or_eq_true] at fits ⊢
  exact ⟨.inr fits.1, fits.2⟩

/-- The data phase is that of the caller of the token wait. -/
theorem tokenMatched_blockInv {s : State} (inv : BlockInv s) (pos : s.seq.pos = .tokenPoll) : BlockInv (tokenMatched s) := by
  have placed : placeFits .tokenPoll s.seq.caller s.session = true := pos ▸ inv.placed
  unfold tokenMatched
  cases caller : s.seq.caller with
  | rdpart => exact blockInv_goesOn inv pos rfl (placed := by rw [caller]; exact id)
  | read => exact blockInv_goesOn inv pos rfl (placed := by rw [caller]; exact id)
  | sendcmd | initIdle | initInit | initApp | initOpCond | write => simp [caller, placeFits] at placed

/-- Stored or not, the byte changes BUF alone, and inside its 512 bytes. -/
theorem StoresByte.eq {s u : State} {p : Pos} (stores : StoresByte s p u) : ∃ b, u = { s with buf := b } := by
  cases stores with
  | whole | inside => exact ⟨_, rfl⟩
  | outside => exact ⟨s.buf, rfl⟩

theorem StoresByte.canonical {s u : State} {p : Pos} (stores : StoresByte s p u) (wf : Memory.wf s.buf) (bound : s.seq.i.toNat < 512) :
    Memory.wf u.buf := by
  cases stores with
  | whole => exact Laws.storeBuf_wf _ wf bound
  | inside => exact Laws.storeBuf_wf _ wf (by omega)
  | outside => exact wf

theorem sequencerStep_blockInv {s t : State} (legal : s.cfg.legal = true) (inv : BlockInv s) (took : SequencerStep s t) :
    BlockInv t := by
  have placed := inv.placed
  have counters := inv.counters
  have attempts := inv.attempts
  obtain ⟨⟨respBudget, respMax⟩, ⟨idleBudget, -⟩, -, ⟨-, tokenMax⟩, ⟨wrespBudget, wrespMax⟩, ⟨busyBudget, busyMax⟩,
    ⟨fillBytes, fillMax⟩, -⟩ := Laws.legal_bounds legal
  cases took with
  | rests => exact inv
  | beginsInit pos =>
    have quiet : Quiet s { deselect (setClock .slow { s with session := .poweringUp }) with seq := { s.seq with j := 1#16 } } :=
      { bus := ⟨[.clk .slow, .desel], List.append_assoc _ _ _, rfl⟩ }
    have fillers : decide (1 ≤ s.cfg.powerupFillerBytes) = true := decide_eq_true (by omega)
    exact blockInv_exchangeAt inv (by rw [pos]; nofun) quiet inv.bufCanonical nofun nofun nofun (by rw [pos]; rfl) rfl fillers rfl nofun
  | @begins caller c arg pos called =>
    rw [pos] at placed
    have quiet : Quiet s (select s) := { bus := ⟨[.sel], rfl, rfl⟩ }
    have fits : callerSession caller s.session = true ∧ attemptsFit (callCommand caller c arg (select s)) = true := by
      simp only [List.mem_cons, List.not_mem_nil, or_false] at called
      obtain rfl | rfl | rfl | rfl := called <;> exact ⟨placed, rfl⟩
    exact blockInv_callCommand inv (by rw [pos]; nofun) quiet inv.bufCanonical inv.fastOnlyReady (by rw [pos]; rfl) fits.1 fits.2
  | filler pos more =>
    rw [pos] at placed
    have counted := Laws.count_toNat more fillMax
    have fits : (decide (1 ≤ (s.seq.j + 1#16).toNat) && decide ((s.seq.j + 1#16).toNat ≤ s.cfg.powerupFillerBytes)) = true := by
      simp only [Bool.and_eq_true, decide_eq_true_eq]
      omega
    exact blockInv_exchangeAt inv (by rw [pos]; nofun) {} inv.bufCanonical inv.fastOnlyReady nofun nofun (by rw [pos]) placed fits rfl
      nofun
  | firstIdle pos =>
    rw [pos] at placed
    have quiet : Quiet s { select s with att := 1#16 } := { bus := ⟨[.sel], rfl, rfl⟩ }
    exact blockInv_callCommand inv (by rw [pos]; nofun) quiet inv.bufCanonical inv.fastOnlyReady (by rw [pos]; rfl) placed
      (attemptsFit_idle (Nat.le_refl 1) idleBudget)
  | frameByte pos more =>
    simp only [pos, attemptsFit] at attempts
    exact blockInv_goesOn inv pos (decide_eq_true more) (attempts := attempts)
  | firstPoll pos all =>
    simp only [pos, attemptsFit] at attempts
    exact blockInv_goesOn inv pos (decide_eq_true respBudget) (attempts := attempts)
  | response pos ready =>
    simp only [pos, attemptsFit] at attempts
    exact blockInv_goesOn inv pos rfl (attempts := attempts) (latched := fun _ => ⟨rfl, rfl, ready⟩)
  | pollsAgain pos inside =>
    simp only [pos, attemptsFit] at attempts
    exact blockInv_goesOn inv pos (decide_eq_true inside) (attempts := attempts)
  | returns returnsIn returned => exact returned_blockInv legal inv returnsIn returned
  | token pos =>
    exact tokenMatched_blockInv inv pos
  | tokenAgain pos inside =>
    simp only [pos, countersFit, decide_eq_true_eq] at counters
    exact blockInv_goesOn inv pos (decide_eq_true (count_lt counters tokenMax inside))
  | tokenFails pos named =>
    have settled := settled_of_transfer (pos ▸ placed) (by decide)
    exact blockInv_failWith ⟨inv.bufCanonical, inv.lastopReserved, inv.fastOnlyReady, settled⟩ (by obtain rfl | rfl := named <;> nofun)
  | dataByte pos stores more =>
    have counted := Laws.index_toNat more
    have canonical := stores.canonical inv.bufCanonical (by omega)
    have bound : (s.seq.i + 1#10).toNat < 512 := by omega
    obtain ⟨b, rfl⟩ := stores.eq
    obtain rfl | rfl := stores.dataPos <;> exact blockInv_goesOn inv pos (decide_eq_true bound) (bufCanonical := .inr canonical)
  | lastByte pos stores =>
    have bound : s.seq.i.toNat < 512 := by
      obtain rfl | rfl := stores.dataPos <;> simpa [countersFit, pos] using counters
    have canonical := stores.canonical inv.bufCanonical bound
    obtain ⟨b, rfl⟩ := stores.eq
    obtain rfl | rfl := stores.dataPos
    · exact blockInv_goesOn inv pos rfl (bufCanonical := .inr canonical) (placed := placeFits_crcFirst (.inl rfl))
    · exact blockInv_goesOn inv pos rfl (bufCanonical := .inr canonical) (placed := placeFits_crcFirst (.inr rfl))
  | crcSecond pos => exact blockInv_goesOn inv pos rfl
  | readFiller pos => exact blockInv_goesOn inv pos rfl (placed := placeFits_trailer_of_read)
  | transferDone pos =>
    have settled := settled_of_transfer (pos ▸ placed) (by decide)
    exact blockInv_succeed ⟨inv.bufCanonical, inv.lastopReserved, inv.fastOnlyReady, settled⟩ rfl
  | writeToken pos => exact blockInv_goesOn inv pos rfl
  | firstSend pos => exact sendData_blockInv inv pos _ (by decide) (fun _ => rfl) id
  | sends pos more =>
    have counted := Laws.index_toNat more
    exact sendData_blockInv inv pos _ (by omega) (fun _ => rfl) id
  | allSent pos => exact blockInv_goesOn inv pos (decide_eq_true wrespBudget)
  | accepted pos => exact blockInv_goesOn inv pos (decide_eq_true busyBudget)
  | drespAgain pos inside =>
    simp only [pos, countersFit, decide_eq_true_eq] at counters
    exact blockInv_goesOn inv pos (decide_eq_true (count_lt counters wrespMax inside))
  | drespFails pos named =>
    have settled := settled_of_transfer (pos ▸ placed) (by decide)
    exact blockInv_failWith ⟨inv.bufCanonical, inv.lastopReserved, inv.fastOnlyReady, settled⟩
      (by obtain rfl | rfl | rfl := named <;> nofun)
  | busyAgain pos inside =>
    simp only [pos, countersFit, decide_eq_true_eq] at counters
    exact blockInv_goesOn inv pos (decide_eq_true (count_lt counters busyMax inside))
  | busyFails pos =>
    have settled := settled_of_transfer (pos ▸ placed) (by decide)
    exact blockInv_failWith ⟨inv.bufCanonical, inv.lastopReserved, inv.fastOnlyReady, settled⟩ nofun
  | ready pos => exact blockInv_goesOn inv pos rfl (placed := placeFits_trailer_of_write)

/-- At rest the machine stands at IDLE in a settled session (R37, R159). -/
theorem settled_of_not_busy {s : State} (inv : BlockInv s) (rest : s.busy = false) : sessionTransient s.session = false := by
  have idle : s.seq.pos = .idle := by
    by_contra running
    simp [busy_of_running inv running] at rest
  have placed := inv.placed
  rw [idle] at placed
  simpa [placeFits] using placed

/-- The host stores inside BUF (R34). -/
theorem hostWrite_canonical {a : BitVec 10} {v : Byte} {s : State} (rest : s.busy = false) (wf : Memory.wf s.buf) :
    Memory.wf (hostWrite a v s).buf := by
  by_cases inBuf : a.toNat < 512
  · rw [hostWrite_buf v rest inBuf]
    exact Laws.storeBuf_wf v wf inBuf
  · rw [hostWrite_register v rest (Nat.not_lt.mp inBuf), storeRegister_buf]
    exact wf

/-- An accepted operation stands before its first statement. -/
theorem accept_blockInv {s : State} {v d : Byte} {op : Op} (inv : BlockInv s)
    (named : (v &&& 0x77#8).extractLsb' 0 3 = opField op) (fits : placeFits (.start op) s.seq.caller s.session = true)
    (low : op = .sendcmd → (cmdsel (v &&& 0x77#8)).toNat < 4) : BlockInv (accept op { takeUp v s with dresp := d }) where
  bufCanonical := inv.bufCanonical
  positionCoherent := rfl
  selOnlyBusy _ := rfl
  busyNotDone _ := ⟨rfl, rfl⟩
  failDone := nofun
  errNamed := by simp
  lastopReserved := Laws.lastop_reserved v
  lastopRuns op' runs := by
    obtain rfl : op = op' := by simpa [runningOp] using runs
    exact named
  sendcmdAllowed started := low (by simpa using started)
  fastOnlyReady := inv.fastOnlyReady
  placed := fits
  counters := rfl
  attempts := rfl
  responseLatched := nofun

theorem hostStep_blockInv {s t : State} (inv : BlockInv s) (took : HostStep s t) : BlockInv t := by
  cases took with
  | ignored => exact inv
  | reads a => exact blockInv_outside inv _ _ _ _ _ _ _ _
  | stores a v rest =>
    rw [Laws.hostWrite_keeps]
    exact blockInv_outside (Laws.blockInv_withBuf inv (hostWrite_canonical rest inv.bufCanonical)) _ _ _ _ _ _ _ _
  | accepts rest named fits low => exact accept_blockInv inv named (fits (settled_of_not_busy inv rest)) low
  | @refuses v code rest named =>
    have settled := settled_of_not_busy inv rest
    exact blockInv_failWith ⟨inv.bufCanonical, Laws.lastop_reserved v, inv.fastOnlyReady, settled⟩ named
  | waits =>
    unfold hostWait
    dsimp only
    split <;> exact blockInv_outside inv _ _ _ _ _ _ _ _

/-- A reset gives the state of the reset, under the configuration it finds. -/
theorem resetBlock_blockInv (s : State) : BlockInv (resetBlock s) :=
  have reset := invariantAtReset
  ⟨reset.bufCanonical, reset.positionCoherent, reset.selOnlyBusy, reset.busyNotDone, reset.failDone, reset.errNamed,
    reset.lastopReserved, reset.lastopRuns, reset.sendcmdAllowed, reset.fastOnlyReady, reset.placed, rfl, rfl, reset.responseLatched⟩

/-- Settles O12: by whose turn it was, and the sequencer's by the table of its steps. -/
theorem stepKeepsInvariant : Obligations.StepKeepsInvariant := by
  intro s t inv next
  have legal := Laws.legal_of_step next
  cases step_taken next with
  | reset _ after =>
    rw [after]
    exact resetBlock_blockInv _
  | sequencer _ _ took => exact sequencerStep_blockInv (s := turnTaken s) legal (blockInv_turnTaken inv) took
  | host _ _ took => exact hostStep_blockInv (blockInv_turnTaken inv) took

end Sys2Proof.Proofs
end

section
/-! What a failing step changes (60_exceptions.md R243, R247), and which steps write the result registers and the clock (10_state.md R26, R27, R29,
R35; 41_session.md R155). -/

namespace Sys2Proof.Proofs

open Sys2Proof.Machine

/-! ## The entry of a failure -/

theorem FailureRecorded.failedWith {s u : State} {code : ErrCode} (recorded : FailureRecorded s code u) :
    failedWith code { s with resp := u.resp, dresp := u.dresp, session := u.session } (failWith code u) := by
  obtain ⟨x, d, y, q, rfl⟩ : ∃ x d y q, u = { s with resp := x, dresp := d, session := y, seq := q } := ⟨_, _, _, _, recorded.kept⟩
  exact ⟨rfl, rfl⟩

/-- A step that fails a running operation is a sequencer's step of the failing shape. -/
theorem failure_recorded {s t : State} (inv : BlockInv s) (busy : s.busy = true) (next : step s = .next t) (failed : t.fail = true) :
    ∃ code u, t = failWith code u ∧ FailureRecorded (turnTaken s) code u := by
  have clear : s.fail = false := (inv.busyNotDone busy).2
  cases step_taken next with
  | reset _ after => simp [after] at failed
  | host notReset notSequencer =>
    rw [step_busy_host busy notSequencer notReset next] at failed
    simp [clear] at failed
  | sequencer _ _ took =>
    cases took.shape with
    | rests => simp [clear] at failed
    | begins _ _ quiet => simp [beginFrame, quiet.fail, clear] at failed
    | continues quiet => simp [quiet.fail, clear] at failed
    | succeeds => cases failed
    | fails recorded => exact ⟨_, _, rfl, recorded⟩

/-- Settles O49: the failing check records its register, and Fail does the rest. -/
theorem failureEntry : Obligations.FailureEntry := by
  intro s t inv busy next failed
  have invAfter := stepKeepsInvariant s t inv next
  obtain ⟨code, u, rfl, recorded⟩ := failure_recorded inv busy next failed
  refine ⟨recorded.failedWith, recorded.named, recorded.session, recorded.resp, recorded.dresp, fun session => ?_⟩
  exact clkfast_eq_false invAfter (by rw [session]; rfl)

/-! ## The writers of RESP, DRESP, ATT, the clock and SESSION -/

/-- What a sequencer's step may write, and where: RESP at the end of a response poll, DRESP at a data-response poll, ATT and SESSION while INIT runs,
and the clock at INIT's success. -/
structure ResultsWritten (s t : State) : Prop where
  resp : t.resp = s.resp ∨ (s.seq.pos = .respPoll ∧ t.resp = s.seq.rx) := by exact .inl rfl
  dresp : t.dresp = s.dresp ∨ (s.seq.pos = .drespPoll ∧ t.dresp = s.seq.rx) := by exact .inl rfl
  att : t.att = s.att ∨ (runningOp s.seq.pos s.seq.caller = some .init ∧ t.seq.pos = .frame 1) := by exact .inl rfl
  session : t.session = s.session ∨ runningOp s.seq.pos s.seq.caller = some .init := by exact .inl rfl
  clkfast : t.clkfast = s.clkfast
    ∨ (runningOp s.seq.pos s.seq.caller = some .init ∧ t.clkfast = true ∧ t.busy = false ∧ t.fail = false
    ∧ (t.session = .sdCard ∨ t.session = .mmcCard) ∧ t.trace = s.trace ++ [BusEvent.desel, BusEvent.clk .fast]) := by exact .inl rfl

theorem sendData_resultsWritten {s : State} (v : BitVec 10) : ResultsWritten s (sendData (setIndex v s)) := by
  cases byte : Memory.read s.buf v.toNat with
  | some b =>
    rw [Laws.sendData_written (s := setIndex v s) byte]
    exact {}
  | none =>
    rw [Laws.sendData_unwritten (s := setIndex v s) byte]
    exact {}

/-- A timeout sets RESP to the byte that was polled, which is 0xFF. -/
theorem ReturnsIn.resp {s u : State} (returnsIn : ReturnsIn s u) :
    u.resp = s.resp ∨ (s.seq.pos = .respPoll ∧ u.resp = s.seq.rx) := by
  cases returnsIn with
  | response => exact .inl rfl
  | timeout pos notReady => exact .inr ⟨pos, notReady.symm⟩

theorem returned_resultsWritten {s u t : State} (inv : BlockInv s) (returnsIn : ReturnsIn s u) (returned : Returned u t) :
    ResultsWritten s t := by
  have resp := returnsIn.resp
  obtain ⟨-, sameOp, -⟩ := returnsIn.fits inv
  obtain ⟨x, q, rfl, sameCaller⟩ := returnsIn.eq
  have initRuns {c : Caller} (caller : q.caller = c) (isInit : callerOp c = .init) :
      runningOp s.seq.pos s.seq.caller = some .init := by
    rw [sameOp, ← sameCaller, caller, isInit]
  cases returned with
  | timesOut | rejected | sendcmdDone | tokenWait | writeData | appAccepted => exact { resp }
  | idleFailed caller | initFailed caller => exact { resp, session := .inr (initRuns caller rfl) }
  | idleAgain caller | initAgain caller => exact { resp, att := .inr ⟨initRuns caller rfl, rfl⟩ }
  | idleEntered caller =>
    exact { resp, att := .inr ⟨initRuns caller rfl, rfl⟩, session := .inr (initRuns caller rfl) }
  | negotiating caller => exact { resp, session := .inr (initRuns caller rfl) }
  | cardFast caller known =>
    have init := caller.elim (initRuns · rfl) (initRuns · rfl)
    exact { resp, session := .inr init, clkfast := .inr ⟨init, rfl, rfl, rfl, known, List.append_assoc _ _ _⟩ }
  | cardSlow caller => exact { resp, session := .inr (caller.elim (initRuns · rfl) (initRuns · rfl)) }

theorem sequencerStep_resultsWritten {s t : State} (inv : BlockInv s) (took : SequencerStep s t) : ResultsWritten s t := by
  cases took with
  | rests => exact {}
  | beginsInit pos =>
    have fits : placeFits (.start .init) s.seq.caller s.session = true := pos ▸ inv.placed
    have slow := clkfast_eq_false inv (by rw [eq_of_beq fits]; rfl)
    exact { session := .inr (by rw [pos]; rfl), clkfast := .inl slow.symm }
  | firstIdle pos => exact { att := .inr ⟨by rw [pos]; rfl, rfl⟩ }
  | response pos => exact { resp := .inr ⟨pos, rfl⟩ }
  | returns returnsIn returned => exact returned_resultsWritten inv returnsIn returned
  | accepted pos | drespAgain pos | drespFails pos =>
    exact { resp := by simp, dresp := .inr ⟨pos, by simp⟩, att := by simp, session := by simp, clkfast := by simp }
  | dataByte pos stores | lastByte pos stores =>
    obtain ⟨b, rfl⟩ := stores.eq
    exact {}
  | firstSend | sends => exact sendData_resultsWritten _
  | begins | filler | frameByte | firstPoll | pollsAgain | token | tokenAgain | tokenFails | crcSecond | readFiller | transferDone
  | writeToken | allSent | busyAgain | busyFails | ready => exact {}

/-- A host's turn writes DRESP at the acceptance of a WRITE, and no other result register. -/
theorem hostStep_resultsWritten {s t : State} (took : HostStep s t) :
    t.resp = s.resp ∧ t.att = s.att ∧ t.clkfast = s.clkfast ∧ t.session = s.session
      ∧ (t.dresp = s.dresp ∨ (s.busy = false ∧ t.dresp = 0xFF#8 ∧ t.seq.pos = .start .write)) := by
  cases took with
  | ignored | reads | refuses => exact ⟨rfl, rfl, rfl, rfl, .inl rfl⟩
  | stores a v =>
    rw [Laws.hostWrite_keeps]
    exact ⟨rfl, rfl, rfl, rfl, .inl rfl⟩
  | accepts rest _ _ _ dresp =>
    refine ⟨rfl, rfl, rfl, rfl, ?_⟩
    obtain kept | ⟨rfl, cleared⟩ := dresp
    · exact .inl kept
    · exact .inr ⟨rest, cleared, rfl⟩
  | waits =>
    unfold hostWait
    dsimp only
    split <;> exact ⟨rfl, rfl, rfl, rfl, .inl rfl⟩

/-- Settles O57: by whose turn it was. -/
theorem resultRegistersWriters : Obligations.ResultRegistersWriters := by
  intro s t inv next notReset
  cases step_taken next with
  | reset turn => exact absurd turn notReset
  | host _ _ took =>
    obtain ⟨resp, att, clkfast, session, dresp⟩ := hostStep_resultsWritten took
    exact ⟨absurd resp, fun changed => .inr (dresp.resolve_left changed), absurd att, absurd clkfast, fun _ _ => ⟨clkfast, session⟩,
      fun _ => clkfast⟩
  | sequencer _ _ took =>
    obtain ⟨resp, dresp, att, session, clkfast⟩ := sequencerStep_resultsWritten (blockInv_turnTaken inv) took
    have initRuns (runs : runningOp s.seq.pos s.seq.caller = some .init) : s.busy = true ∧ s.lastop.extractLsb' 0 3 = 1#3 :=
      ⟨busy_of_running inv fun idle => by simp [idle, runningOp] at runs, inv.lastopRuns .init runs⟩
    refine ⟨resp.resolve_left, fun changed => .inl (dresp.resolve_left changed), fun changed => ?_, fun changed => ?_,
      fun _ notInit => ⟨?_, ?_⟩, fun failed => ?_⟩
    · obtain ⟨runs, pos⟩ := att.resolve_left changed
      exact ⟨(initRuns runs).1, (initRuns runs).2, pos⟩
    · obtain ⟨runs, fast, rest, -, card, trace⟩ := clkfast.resolve_left changed
      exact ⟨(initRuns runs).1, (initRuns runs).2, fast, rest, card, trace⟩
    · exact clkfast.resolve_right fun ⟨runs, _⟩ => notInit (initRuns runs).2
    · exact session.resolve_right fun runs => notInit (initRuns runs).2
    · exact clkfast.resolve_right fun ⟨_, _, _, clear, _⟩ => by simp [clear] at failed

end Sys2Proof.Proofs
end

section
/-! The steps that decide: the returns of SendCommand to INIT (41_session.md R150 to R158) and to the block commands, and the polls of the sector
transfers (42_block_read.md R180, R181; 43_block_write.md R210 to R214). -/

namespace Sys2Proof.Proofs

open Sys2Proof.Machine

/-! ## What every step of a running operation keeps -/

theorem StepShape.quiet_fields {s t : State} (shape : StepShape s t) :
    t.cfg = s.cfg ∧ t.lastop = s.lastop ∧ t.arg = s.arg ∧ t.offs = s.offs ∧ t.cnt = s.cnt ∧ t.reads = s.reads := by
  cases shape with
  | rests => exact ⟨rfl, rfl, rfl, rfl, rfl, rfl⟩
  | begins _ _ quiet => exact ⟨quiet.cfg, quiet.lastop, quiet.arg, quiet.offs, quiet.cnt, quiet.reads⟩
  | continues quiet | succeeds quiet => exact ⟨quiet.cfg, quiet.lastop, quiet.arg, quiet.offs, quiet.cnt, quiet.reads⟩
  | fails recorded =>
    have quiet := recorded.quiet
    exact ⟨quiet.cfg, quiet.lastop, quiet.arg, quiet.offs, quiet.cnt, quiet.reads⟩

/-- Outside the two steps that store read data, a step of a running operation writes no parameter and no byte of BUF. -/
theorem dataKept_of_step {s t : State} (isCoherent : coherent s = true) (turn : nextTurn s = .sequencer)
    (running : s.seq.pos ∉ [Pos.idle, .readData, .partData]) (next : step s = .next t) : dataKept s t := by
  simp only [List.mem_cons, List.not_mem_nil, or_false, not_or] at running
  obtain ⟨notIdle, notRead, notPart⟩ := running
  have legal := Laws.legal_of_step next
  obtain ⟨u, ends, kept⟩ := step_sequencer_ends legal isCoherent turn notIdle notRead notPart
  obtain ⟨v, runs, took⟩ := step_sequencerStep legal isCoherent turn
  obtain rfl := Host.Outcome.next.inj (ends.symm.trans next)
  obtain rfl := Host.Outcome.next.inj (runs.symm.trans next)
  obtain ⟨cfg, lastop, arg, offs, cnt, reads⟩ := took.shape.quiet_fields
  exact ⟨cfg, kept.buf, lastop, arg, offs, cnt, reads⟩

/-- The event of a call of SendCommand is the exchange of its command byte. -/
theorem callCommand_trace (caller : Caller) (c : Command) (arg : BitVec 32) (s : State) :
    (callCommand caller c arg s).trace = s.trace ++ [.x (s.cfg.cmdByte c) (callCommand caller c arg s).seq.rx] := by
  rw [callCommand_eq]
  rfl

/-! ## Step 1 to step 2 of INIT (R151, R152) -/

/-- Settles O33: the filler counter decides. -/
theorem fillerThenFirstGoIdle : Obligations.FillerThenFirstGoIdle := by
  intro s legal inv turn pos
  have next := Laws.step_filler legal turn inv.positionCoherent pos
  have kept := dataKept_of_step inv.positionCoherent turn (by simp [pos]) next
  have busy : s.busy = true := busy_of_running inv (by simp [pos])
  have session : s.session = .poweringUp := eq_of_beq (pos ▸ inv.placed :)
  refine ⟨_, next, kept, ?_⟩
  by_cases more : s.seq.j.toNat < s.cfg.powerupFillerBytes
  · rw [continueFiller_more (s := turnTaken s) more]
    exact ⟨session, busy, fun _ => ⟨rfl, rfl, rfl, rfl, rfl⟩, fun all => absurd more (by omega)⟩
  · rw [continueFiller_done (s := turnTaken s) more, attemptIdle_first (s := turnTaken s) legal]
    refine ⟨session, busy, fun less => absurd less more, fun _ => ⟨?_, rfl, rfl, rfl, rfl, rfl, rfl⟩⟩
    rw [callCommand_trace]
    exact List.append_assoc _ _ _

/-! ## The returns of SendCommand (R152 to R156) -/

/-- The state in which SendCommand returns the response `r`, with the hidden values `q`. -/
def returnState (s : State) (r : Byte) (q : Sequencer) : State := { turnTaken s with resp := r, seq := q }

/-- SendCommand returns its response, after a dummy exchange or out of polls, with RESP the response. -/
theorem step_of_returning {s : State} {c : Caller} {r : Byte} (legal : s.cfg.legal = true) (inv : BlockInv s)
    (turn : nextTurn s = .sequencer) (returns : returning s c r) :
    ∃ q : Sequencer, q.caller = c ∧ q.r = r ∧ step s = .next (returnCommand (returnState s r q)) := by
  obtain ⟨caller, ⟨pos, response⟩ | ⟨pos, notReady, last, rfl⟩⟩ := returns
  · obtain ⟨-, latched, -⟩ := inv.responseLatched pos
    refine ⟨s.seq, caller, response, ?_⟩
    rw [Laws.step_respDummy legal turn inv.positionCoherent pos, ← response, latched]
    rfl
  · obtain ⟨⟨-, budget⟩, -⟩ := Laws.legal_bounds legal
    refine ⟨{ s.seq with n := s.seq.n + 1#16, r := notReadyByte, timedout := true }, caller, rfl, ?_⟩
    rw [Laws.step_respPoll_notReady legal turn inv.positionCoherent pos notReady,
      Laws.noResponse_last (s := turnTaken s) last budget]
    rfl

/-- It returns while the command's call site runs. -/
theorem fits_of_returning {s : State} {c : Caller} {r : Byte} (inv : BlockInv s) (returns : returning s c r) :
    s.busy = true ∧ callerSession c s.session = true ∧ s.seq.pos ∉ [Pos.idle, .readData, .partData] := by
  have placed := inv.placed
  obtain ⟨rfl, ⟨pos, -⟩ | ⟨pos, -⟩⟩ := returns <;> rw [pos] at placed <;>
    exact ⟨busy_of_running inv (by simp [pos]), placed, by simp [pos]⟩

theorem afterIdle_idle {s : State} (legal : s.cfg.legal = true) (idle : s.seq.r = s.cfg.idleOk) :
    afterIdle s = callCommand .initInit .initCmd 0#32 { s with session := .idleEntered, att := 1#16 } :=
  (if_pos idle).trans (attemptInit_first legal)

theorem afterIdle_other {s : State} (other : s.seq.r ≠ s.cfg.idleOk) : afterIdle s = attemptIdle s := if_neg other

theorem afterInit_ok {s : State} (ok : s.seq.r = okByte) :
    afterInit s = callCommand .initApp .appCmd 0#32 { s with session := .negotiating } := if_pos ok

theorem afterInit_other {s : State} (other : s.seq.r ≠ okByte) : afterInit s = attemptInit s := if_neg other

theorem afterApp_ok {s : State} (ok : s.seq.r = okByte) : afterApp s = callCommand .initOpCond .sdSendOpCond 0#32 s := if_pos ok

theorem afterApp_other {s : State} (other : s.seq.r ≠ okByte) : afterApp s = finishInit false s := if_neg other

/-- Settles O34: IDLE_OK, and else the attempts, decide. -/
theorem goIdleResponseDecides : Obligations.GoIdleResponseDecides := by
  intro s r legal inv turn returns
  obtain ⟨busy, called, running⟩ := fits_of_returning inv returns
  have session : s.session = .poweringUp := eq_of_beq called
  obtain ⟨q, caller, response, next⟩ := step_of_returning legal inv turn returns
  have kept := dataKept_of_step inv.positionCoherent turn running next
  have returned : returnCommand (returnState s r q) = afterIdle (returnState s r q) := by
    simp only [returnCommand, returnState, caller]
  refine ⟨_, next, kept, ?_⟩
  rw [returned]
  by_cases idle : r = s.cfg.idleOk
  · rw [afterIdle_idle (s := returnState s r q) legal (response.trans idle)]
    exact ⟨rfl, rfl, rfl, fun _ => ⟨rfl, rfl, busy, rfl, callCommand_trace _ _ _ _, rfl, rfl, rfl, rfl⟩,
      fun other => absurd idle other, fun other => absurd idle other⟩
  · rw [afterIdle_other (s := returnState s r q) (fun same => idle (response.symm.trans same))]
    by_cases last : s.att.toNat = s.cfg.idleAttempts
    · rw [Laws.attemptIdle_last (s := returnState s r q) last]
      exact ⟨rfl, rfl, rfl, fun same => absurd same idle, fun _ more => absurd last (Nat.ne_of_lt more),
        fun _ _ => ⟨rfl, rfl, rfl, rfl, rfl, rfl, rfl, rfl, rfl⟩⟩
    · rw [Laws.attemptIdle_next (s := returnState s r q) last]
      exact ⟨rfl, rfl, rfl, fun same => absurd same idle,
        fun _ _ => ⟨session, rfl, busy, rfl, callCommand_trace _ _ _ _, rfl, rfl, rfl, rfl⟩, fun _ same => absurd same last⟩

/-- Settles O35: 0x00, and else the attempts, decide. -/
theorem initCmdResponseDecides : Obligations.InitCmdResponseDecides := by
  intro s r legal inv turn returns
  obtain ⟨busy, called, running⟩ := fits_of_returning inv returns
  have session : s.session = .idleEntered := eq_of_beq called
  obtain ⟨q, caller, response, next⟩ := step_of_returning legal inv turn returns
  have kept := dataKept_of_step inv.positionCoherent turn running next
  have returned : returnCommand (returnState s r q) = afterInit (returnState s r q) := by
    simp only [returnCommand, returnState, caller]
  refine ⟨_, next, kept, ?_⟩
  rw [returned]
  by_cases ok : r = okByte
  · rw [afterInit_ok (s := returnState s r q) (response.trans ok)]
    exact ⟨rfl, rfl, rfl, fun _ => ⟨rfl, rfl, busy, rfl, callCommand_trace _ _ _ _, rfl, rfl, rfl, rfl⟩,
      fun other => absurd ok other, fun other => absurd ok other⟩
  · rw [afterInit_other (s := returnState s r q) (fun same => ok (response.symm.trans same))]
    by_cases last : s.att.toNat = s.cfg.initAttempts
    · rw [Laws.attemptInit_last (s := returnState s r q) last]
      exact ⟨rfl, rfl, rfl, fun same => absurd same ok, fun _ more => absurd last (Nat.ne_of_lt more),
        fun _ _ => ⟨rfl, rfl, rfl, rfl, rfl, rfl, rfl, rfl, rfl⟩⟩
    · rw [Laws.attemptInit_next (s := returnState s r q) last]
      exact ⟨rfl, rfl, rfl, fun same => absurd same ok,
        fun _ _ => ⟨session, rfl, busy, rfl, callCommand_trace _ _ _ _, rfl, rfl, rfl, rfl⟩, fun _ same => absurd same last⟩

/-- The end of INIT, on an SD card and on an MMC card with and without the fast clock (R155, R156). -/
theorem finishInit_sd (s : State) : finishInit true s = succeed { setClock .fast (deselect s) with session := .sdCard } := rfl

theorem finishInit_mmc_fast {s : State} (fast : s.cfg.mmcFastClock = true) :
    finishInit false s = succeed { setClock .fast (deselect s) with session := .mmcCard } := by
  simp [finishInit, fast]

theorem finishInit_mmc_slow {s : State} (slow : s.cfg.mmcFastClock = false) :
    finishInit false s = succeed { deselect s with session := .mmcCard } := by
  simp [finishInit, slow]

/-- After step 4's commands: SD_SEND_OP_COND follows an accepted APP_CMD, and otherwise INIT ends. -/
theorem returnCommand_step4 {s : State} (caller : s.seq.caller = .initApp ∨ s.seq.caller = .initOpCond) :
    (s.seq.r = okByte ∧ s.seq.caller = .initApp ∧ returnCommand s = callCommand .initOpCond .sdSendOpCond 0#32 s)
      ∨ (s.seq.r = okByte ∧ s.seq.caller = .initOpCond ∧ returnCommand s = finishInit true s)
      ∨ (s.seq.r ≠ okByte ∧ returnCommand s = finishInit false s) := by
  by_cases ok : s.seq.r = okByte
  · obtain caller | caller := caller
    · exact .inl ⟨ok, caller, by simp only [returnCommand, caller, afterApp_ok ok]⟩
    · exact .inr (.inl ⟨ok, caller, by simp [returnCommand, caller, ok]⟩)
  · refine .inr (.inr ⟨ok, ?_⟩)
    obtain caller | caller := caller
    · simp only [returnCommand, caller, afterApp_other ok]
    · simp only [returnCommand, caller, beq_eq_false_iff_ne.mpr ok]

/-- Settles O36: by the command of step 4 and its response, and on an MMC card by the clock parameter. -/
theorem cardTypeSelection : Obligations.CardTypeSelection := by
  intro s r legal inv turn returns
  obtain ⟨c, step4, returnsTo⟩ : ∃ c : Caller, (c = .initApp ∨ c = .initOpCond) ∧ returning s c r := by
    obtain app | opCond := returns
    · exact ⟨_, .inl rfl, app⟩
    · exact ⟨_, .inr rfl, opCond⟩
  obtain ⟨busy, called, running⟩ := fits_of_returning inv returnsTo
  have session : s.session = .negotiating := by obtain rfl | rfl := step4 <;> exact eq_of_beq called
  have caller : s.seq.caller = c := returnsTo.1
  obtain ⟨q, rfl, rfl, next⟩ := step_of_returning legal inv turn returnsTo
  have kept := dataKept_of_step inv.positionCoherent turn running next
  refine ⟨_, next, kept, ?_⟩
  obtain ⟨ok, app, returned⟩ | ⟨ok, opCond, returned⟩ | ⟨other, returned⟩ := returnCommand_step4 (s := returnState s q.r q) step4
  · rw [returned]
    have callSite := caller.trans app
    refine ⟨rfl, rfl, rfl, fun _ _ => ⟨session, busy, rfl, rfl, callCommand_trace _ _ _ _, rfl, rfl, rfl, rfl⟩,
      fun ends => absurd ⟨ok, callSite⟩ ends, fun _ opCond => ?_, fun other => absurd ok other, fun other => absurd ok other⟩
    exact nomatch callSite.symm.trans opCond
  · rw [returned, finishInit_sd]
    have callSite := caller.trans opCond
    refine ⟨rfl, rfl, rfl, fun _ app => ?_, fun _ => ⟨rfl, rfl, rfl, rfl, rfl, rfl⟩,
      fun _ _ => ⟨rfl, rfl, List.append_assoc _ _ _⟩, fun other => absurd ok other, fun other => absurd ok other⟩
    exact nomatch callSite.symm.trans app
  · rw [returned]
    cases clock : s.cfg.mmcFastClock with
    | true =>
      rw [finishInit_mmc_fast (s := returnState s q.r q) clock]
      exact ⟨rfl, rfl, rfl, fun ok => absurd ok other, fun _ => ⟨rfl, rfl, rfl, rfl, rfl, rfl⟩, fun ok => absurd ok other,
        fun _ _ => ⟨rfl, rfl, List.append_assoc _ _ _⟩, fun _ slow => nomatch slow⟩
    | false =>
      rw [finishInit_mmc_slow (s := returnState s q.r q) clock]
      exact ⟨rfl, rfl, rfl, fun ok => absurd ok other, fun _ => ⟨rfl, rfl, rfl, rfl, rfl, rfl⟩, fun ok => absurd ok other,
        fun _ fast => (nomatch fast), fun _ _ => ⟨rfl, rfl, rfl⟩⟩

/-! ## The response of a block command (R180, R185, R210) -/

/-- What follows a block command that was answered 0x00. -/
def afterBlockCommand (s : State) : State :=
  match s.seq.caller with
  | .write => beginWriteData s
  | _ => beginTokenWait s

theorem returnCommand_block {s : State} (caller : s.seq.caller ∈ [Caller.read, .rdpart, .write]) :
    returnCommand s = checkBlockResponse afterBlockCommand s := by
  simp only [List.mem_cons, List.not_mem_nil, or_false] at caller
  obtain caller | caller | caller := caller <;> simp [returnCommand, checkBlockResponse, afterBlockCommand, caller]

/-- Settles O38: the latched response is RESP, and no timeout is latched with it. -/
theorem blockResponseChecked : Obligations.BlockResponseChecked := by
  intro s legal inv turn pos caller
  obtain ⟨noTimeout, latched, -⟩ := inv.responseLatched pos
  have busy : s.busy = true := busy_of_running inv (by simp [pos])
  have next := Laws.step_respDummy legal turn inv.positionCoherent pos
  have kept := dataKept_of_step inv.positionCoherent turn (by simp [pos]) next
  refine ⟨_, next, kept, ?_⟩
  rw [returnCommand_block (s := turnTaken s) caller]
  by_cases ok : s.resp = okByte
  · rw [Laws.checkBlockResponse_ok (s := turnTaken s) noTimeout (latched.trans ok)]
    simp only [List.mem_cons, List.not_mem_nil, or_false] at caller
    obtain caller | caller | caller := caller
    all_goals simp only [afterBlockCommand, Laws.turnTaken_seq, caller]
    · exact ⟨rfl, rfl, rfl, rfl, rfl, fun _ => ⟨busy, rfl, rfl, nofun, fun _ => ⟨rfl, rfl⟩⟩, fun other => absurd ok other⟩
    · exact ⟨rfl, rfl, rfl, rfl, rfl, fun _ => ⟨busy, rfl, rfl, nofun, fun _ => ⟨rfl, rfl⟩⟩, fun other => absurd ok other⟩
    · exact ⟨rfl, rfl, rfl, rfl, rfl, fun _ => ⟨busy, rfl, rfl, fun _ => rfl, fun other => absurd rfl other⟩,
        fun other => absurd ok other⟩
  · rw [Laws.checkBlockResponse_rejected (s := turnTaken s) noTimeout (fun same => ok (latched.symm.trans same))]
    exact ⟨rfl, rfl, rfl, rfl, rfl, fun same => absurd same ok, fun _ => ⟨rfl, rfl, rfl, rfl, rfl, rfl⟩⟩

/-! ## The token wait (R181) -/

/-- A byte that is skipped is counted, and the budget decides. -/
theorem step_tokenPoll_skips {s : State} (legal : s.cfg.legal = true) (turn : nextTurn s = .sequencer) (isCoherent : coherent s = true)
    (pos : s.seq.pos = .tokenPoll) (noToken : s.seq.rx ≠ dataStartToken)
    (skips : s.seq.rx = notReadyByte ∨ s.cfg.tokenMatchMode = .skipUntilFe) :
    step s = .next (pollToken (countPoll (turnTaken s))) := by
  by_cases notReady : s.seq.rx = notReadyByte
  · exact Laws.step_tokenPoll_notReady legal turn isCoherent pos notReady
  · rw [Laws.step_tokenPoll_other legal turn isCoherent pos noToken notReady, tokenOther, Laws.turnTaken_cfg,
      skips.resolve_left notReady]

theorem step_tokenPoll_mismatch {s : State} (legal : s.cfg.legal = true) (turn : nextTurn s = .sequencer)
    (isCoherent : coherent s = true) (pos : s.seq.pos = .tokenPoll) (noToken : s.seq.rx ≠ dataStartToken)
    (ready : s.seq.rx ≠ notReadyByte) (mode : s.cfg.tokenMatchMode = .firstNonFf) :
    step s = .next (failWith .tokenMismatch (countPoll (turnTaken s))) := by
  rw [Laws.step_tokenPoll_other legal turn isCoherent pos noToken ready, tokenOther, Laws.turnTaken_cfg, mode]

/-- Settles O40: the byte, the mode and the budget decide. -/
theorem tokenPollOutcomes : Obligations.TokenPollOutcomes := by
  intro s legal inv turn pos
  have isCoherent := inv.positionCoherent
  have busy : s.busy = true := busy_of_running inv (by simp [pos])
  have kept {t : State} (next : step s = .next t) : dataKept s t := dataKept_of_step isCoherent turn (by simp [pos]) next
  by_cases token : s.seq.rx = dataStartToken
  · have next := Laws.step_tokenPoll_token legal turn isCoherent pos token
    have data : dataPos s.seq.caller = .readData ∨ dataPos s.seq.caller = .partData := by cases s.seq.caller <;> simp [dataPos]
    refine ⟨_, next, kept next, by simp [tokenMatched], by simp [tokenMatched], by simp [tokenMatched], fun _ => ?_,
      fun other => absurd token other, fun other => absurd token other⟩
    simp [tokenMatched, busy, data, fillerByte, setIndex]
  · by_cases skips : s.seq.rx = notReadyByte ∨ s.cfg.tokenMatchMode = .skipUntilFe
    · have next := step_tokenPoll_skips legal turn isCoherent pos token skips
      refine ⟨_, next, kept next, ?_⟩
      obtain ⟨-, -, -, ⟨-, budget⟩, -⟩ := Laws.legal_bounds legal
      have inside : s.seq.n.toNat < s.cfg.tokenPollBudget := by simpa [countersFit, pos] using inv.counters
      have counted := Laws.count_toNat inside budget
      have notMismatch (ready : s.seq.rx ≠ notReadyByte) (mode : s.cfg.tokenMatchMode = .firstNonFf) : False := by
        simp [mode, ready] at skips
      by_cases last : s.seq.n.toNat + 1 = s.cfg.tokenPollBudget
      · rw [Laws.pollToken_last (s := countPoll (turnTaken s)) (counted.trans last)]
        exact ⟨rfl, rfl, rfl, fun same => absurd same token, fun _ ready mode => (notMismatch ready mode).elim,
          fun _ _ => ⟨fun _ => ⟨rfl, rfl, rfl, rfl⟩, fun less => by omega⟩⟩
      · rw [Laws.pollToken_again (s := countPoll (turnTaken s)) (by rw [← counted] at last; exact last)]
        refine ⟨by simp, by simp, by simp, fun same => absurd same token, fun _ ready mode => (notMismatch ready mode).elim,
          fun _ _ => ⟨fun same => absurd same last, fun _ => ?_⟩⟩
        simp [busy, fillerByte, countPoll]
    · obtain ⟨ready, notSkip⟩ := not_or.mp skips
      have mode : s.cfg.tokenMatchMode = .firstNonFf := by
        cases known : s.cfg.tokenMatchMode with
        | firstNonFf => rfl
        | skipUntilFe => exact absurd known notSkip
      have next := step_tokenPoll_mismatch legal turn isCoherent pos token ready mode
      exact ⟨_, next, kept next, rfl, rfl, rfl, fun same => absurd same token, fun _ _ _ => ⟨rfl, rfl, rfl, rfl⟩,
        fun _ skip => absurd skip skips⟩

/-! ## The data-response wait and the busy wait (R212 to R214) -/

/-- The step of a row of the data-response site, in which the row's byte is the whole byte polled. -/
theorem step_drespPoll_accepted {s : State} (legal : s.cfg.legal = true) (turn : nextTurn s = .sequencer) (isCoherent : coherent s = true)
    (pos : s.seq.pos = .drespPoll) (low : s.seq.rx.extractLsb' 0 4 = 0x5#4) :
    step s = .next (exchangeAt .busyPoll fillerByte (clearPolls (latchDataResponse s.seq.rx (turnTaken s)))) := by
  have row : decodeDataResponse s.seq.rx = .ok (.drespAccepted (s.seq.rx.extractLsb' 4 4)) := by simp [decodeDataResponse, low]
  simp only [Laws.step_drespPoll legal turn isCoherent pos row, exec, execDrespAccepted, append_lowNibble low]

theorem step_drespPoll_crcRejected {s : State} (legal : s.cfg.legal = true) (turn : nextTurn s = .sequencer)
    (isCoherent : coherent s = true) (pos : s.seq.pos = .drespPoll) (low : s.seq.rx.extractLsb' 0 4 = 0xB#4) :
    step s = .next (failWith .wrCrcRejected (latchDataResponse s.seq.rx (turnTaken s))) := by
  have row : decodeDataResponse s.seq.rx = .ok (.drespCrcRejected (s.seq.rx.extractLsb' 4 4)) := by simp [decodeDataResponse, low]
  simp only [Laws.step_drespPoll legal turn isCoherent pos row, exec, execDrespCrcRejected, append_lowNibble low]

theorem step_drespPoll_writeError {s : State} (legal : s.cfg.legal = true) (turn : nextTurn s = .sequencer)
    (isCoherent : coherent s = true) (pos : s.seq.pos = .drespPoll) (low : s.seq.rx.extractLsb' 0 4 = 0xD#4) :
    step s = .next (failWith .wrErrorRejected (latchDataResponse s.seq.rx (turnTaken s))) := by
  have row : decodeDataResponse s.seq.rx = .ok (.drespWriteError (s.seq.rx.extractLsb' 4 4)) := by simp [decodeDataResponse, low]
  simp only [Laws.step_drespPoll legal turn isCoherent pos row, exec, execDrespWriteError, append_lowNibble low]

theorem dataResponseNotYet_again {s : State} (inside : s.seq.n.toNat + 1 < s.cfg.wrespPollBudget)
    (budget : s.cfg.wrespPollBudget ≤ 65535) :
    dataResponseNotYet s = exchangeAt .drespPoll fillerByte (latchDataResponse s.seq.rx s) := by
  have counted := Laws.count_toNat (n := s.seq.n) (b := s.cfg.wrespPollBudget) (by omega) budget
  simp [dataResponseNotYet, latchDataResponse, counted, Nat.ne_of_lt inside]

theorem dataResponseNotYet_last {s : State} (last : s.seq.n.toNat + 1 = s.cfg.wrespPollBudget) (budget : s.cfg.wrespPollBudget ≤ 65535) :
    dataResponseNotYet s = failWith .wrRespTimeout (latchDataResponse s.seq.rx s) := by
  have counted := Laws.count_toNat (n := s.seq.n) (b := s.cfg.wrespPollBudget) (by omega) budget
  simp [dataResponseNotYet, latchDataResponse, counted, last]

/-- What a data response that fails the WRITE leaves. -/
theorem failWith_latched (e : ErrCode) (s : State) :
    let t := failWith e (latchDataResponse s.seq.rx s)
    t.resp = s.resp ∧ t.dresp = s.seq.rx ∧ t.session = s.session ∧ t.busy = false ∧ t.fail = true ∧ t.err = e
      ∧ t.trace = deselectedTrace s := by
  simp [latchDataResponse, deselectedTrace]

/-- Settles O46: the low nibble, and else the budget, decide. -/
theorem dataResponsePollOutcomes : Obligations.DataResponsePollOutcomes := by
  intro s legal inv turn pos
  have isCoherent := inv.positionCoherent
  have busy : s.busy = true := busy_of_running inv (by simp [pos])
  have kept {t : State} (next : step s = .next t) : dataKept s t := dataKept_of_step isCoherent turn (by simp [pos]) next
  obtain ⟨low, -⟩ | ⟨low, -⟩ | ⟨low, -⟩ | ⟨notAccepted, notCrc, notError, noRow⟩ := Laws.decodeDataResponse_cases s.seq.rx
  · have next := step_drespPoll_accepted legal turn isCoherent pos low
    refine ⟨_, next, kept next, by simp, by simp [latchDataResponse], by simp, fun _ => ?_, ?_⟩
    · simp [busy, latchDataResponse, clearPolls, fillerByte]
    · simp [low]
  · have next := step_drespPoll_crcRejected legal turn isCoherent pos low
    obtain ⟨resp, dresp, session, ends⟩ := failWith_latched .wrCrcRejected (turnTaken s)
    refine ⟨_, next, kept next, resp, dresp, session, ?_⟩
    simp only [low]
    exact ⟨nofun, fun _ => ends, nofun, fun _ notCrc => absurd rfl notCrc⟩
  · have next := step_drespPoll_writeError legal turn isCoherent pos low
    obtain ⟨resp, dresp, session, ends⟩ := failWith_latched .wrErrorRejected (turnTaken s)
    refine ⟨_, next, kept next, resp, dresp, session, ?_⟩
    simp only [low]
    exact ⟨nofun, nofun, fun _ => ends, fun _ _ notError => absurd rfl notError⟩
  · have next := Laws.step_drespPoll_notYet legal turn isCoherent pos noRow
    obtain ⟨-, -, -, -, ⟨-, budget⟩, -⟩ := Laws.legal_bounds legal
    have inside : s.seq.n.toNat < s.cfg.wrespPollBudget := by simpa [countersFit, pos] using inv.counters
    refine ⟨_, next, kept next, ?_⟩
    by_cases last : s.seq.n.toNat + 1 = s.cfg.wrespPollBudget
    · rw [dataResponseNotYet_last (s := turnTaken s) last budget]
      obtain ⟨resp, dresp, session, ends⟩ := failWith_latched .wrRespTimeout (turnTaken s)
      exact ⟨resp, dresp, session, fun same => absurd same notAccepted, fun same => absurd same notCrc, fun same => absurd same notError,
        fun _ _ _ => ⟨fun _ => ends, fun less => absurd last (Nat.ne_of_lt less)⟩⟩
    · have again : s.seq.n.toNat + 1 < s.cfg.wrespPollBudget := by omega
      rw [dataResponseNotYet_again (s := turnTaken s) again budget]
      refine ⟨by simp, by simp [latchDataResponse], by simp, fun same => absurd same notAccepted, fun same => absurd same notCrc,
        fun same => absurd same notError, fun _ _ _ => ⟨fun same => absurd same last, fun _ => ?_⟩⟩
      simp [busy, latchDataResponse, countPoll, fillerByte]

/-- Settles O48: the ready byte's filler, then the end. -/
theorem writeEndsWithFiller : Obligations.WriteEndsWithFiller := by
  intro s legal inv alone pos ready
  have busy : s.busy = true := busy_of_running inv (by simp [pos])
  have turn : nextTurn s = .sequencer := by simp [nextTurn, alone]
  have first : step s = .next (cardReady s) := by
    rw [Laws.step_busyPoll_ready legal turn inv.positionCoherent pos ready, turnTaken_of_agenda_nil alone]
  have second : step (cardReady s) = .next (succeed (deselect (cardReady s))) := by
    rw [Laws.step_trailer (s := cardReady s) legal turn (by simp [coherent, cardReady, busy]) rfl,
      turnTaken_of_agenda_nil (s := cardReady s) alone]
  refine ⟨_, (run_succ_of_step first 1).trans (run_succ_of_step second 0), ?_⟩
  have sent : cardReady s = _ := exchangeAt_of_sameBus (s := s) (u := countPoll s) (by simp) (by simp) (by simp) _ _
  rw [sent]
  exact ⟨⟨rfl, rfl, rfl, rfl, rfl, rfl, rfl⟩, rfl, rfl, rfl, rfl, rfl, rfl, rfl, rfl, List.append_assoc _ _ _⟩

end Sys2Proof.Proofs
end

section
/-! Whole operations while only the sequencer moves and the card's answers wait in its queue: SENDCMD (40_protocol.md R123 to R127), READ and
RDPART (42_block_read.md R180 to R185). -/

namespace Sys2Proof.Proofs

open Sys2Proof.Machine

/-! ## Runs in which every step is an exchange -/

/-- An operation runs and no other turn waits. -/
structure RunsAlone (s : State) : Prop where
  legal : s.cfg.legal = true
  busy : s.busy = true
  alone : s.agenda = []

theorem RunsAlone.turn {s : State} (runs : RunsAlone s) : nextTurn s = .sequencer := by simp [nextTurn, runs.alone]

theorem RunsAlone.taken {s : State} (runs : RunsAlone s) : turnTaken s = s := turnTaken_of_agenda_nil runs.alone

theorem RunsAlone.isCoherent {s : State} (runs : RunsAlone s) (running : s.seq.pos ≠ .idle) : coherent s = true := by
  simp [coherent, runs.busy, running]

theorem RunsAlone.budgets {s : State} (runs : RunsAlone s) : s.cfg.respPollBudget ≤ 65535 ∧ s.cfg.tokenPollBudget ≤ 65535 := by
  obtain ⟨⟨-, resp⟩, -, -, ⟨-, token⟩, -⟩ := Laws.legal_bounds runs.legal
  exact ⟨resp, token⟩

/-- `k` steps lead from `s` to `t` and each of them makes one exchange. -/
structure Exchanging (k : Nat) (s t : State) : Prop where
  run : core.run k s = .next t
  count : exchanges t.trace = exchanges s.trace + k

theorem Exchanging.refl (s : State) : Exchanging 0 s s := ⟨rfl, rfl⟩

/-- One step, which is an exchange after statements that leave the bus alone, and then the rest. -/
theorem Exchanging.cons {k : Nat} {s u t : State} {p : Pos} {tx : Byte} (next : step s = .next (exchangeAt p tx u))
    (sameTrace : u.trace = s.trace) (rest : Exchanging k (exchangeAt p tx u) t) : Exchanging (k + 1) s t where
  run := (run_succ_of_step next k).trans rest.run
  count := by rw [rest.count, exchanges_exchangeAt, sameTrace, Nat.add_right_comm, Nat.add_assoc]

theorem run_add {j : Nat} {s t : State} (first : core.run j s = .next t) (k : Nat) : core.run (j + k) s = core.run k t := by
  induction j generalizing s with
  | zero =>
    obtain rfl := Host.Outcome.next.inj first
    rw [Nat.zero_add]
  | succ j ih =>
    rw [Nat.add_right_comm]
    cases next : step s with
    | next u => exact (run_succ_of_step next (j + k)).trans (ih ((run_succ_of_step next j).symm.trans first))
    | fault r => simp [Host.Core.run, core, next] at first
    | refused r => simp [Host.Core.run, core, next] at first

theorem Exchanging.trans {j k : Nat} {s t u : State} (first : Exchanging j s t) (second : Exchanging k t u) : Exchanging (j + k) s u where
  run := (run_add first.run k).trans second.run
  count := by rw [second.count, first.count, Nat.add_assoc]

theorem Exchanging.snoc {k : Nat} {s t u : State} {p : Pos} {tx : Byte} (first : Exchanging k s t)
    (next : step t = .next (exchangeAt p tx u)) (sameTrace : u.trace = t.trace) : Exchanging (k + 1) s (exchangeAt p tx u) :=
  first.trans (.cons next sameTrace (.refl _))

/-- A run depends on its first state only by that state's step. -/
theorem run_congr {s u : State} (same : step s = step u) (k : Nat) : core.run (k + 1) s = core.run (k + 1) u := by
  simp only [Host.Core.run, core, same]

/-- An exchange while an answer waits: the answer is received and used up, and no draw is made. -/
theorem exchangeAt_of_card {s : State} {b : Byte} {rest : List Byte} (card : s.card = b :: rest) (p : Pos) (tx : Byte) :
    exchangeAt p tx s
      = { s with trace := s.trace ++ [.x tx b], card := rest, seq := { s.seq with pos := p, rx := b } } := by
  simp [exchangeAt, Laws.answer_of_card card, card]

/-! ## The frame and the poll loops -/

/-- The rest of a frame uses up one answer for each byte. -/
theorem exchanging_frame {bytes rest : List Byte} {sent : Nat} {s : State} (runs : RunsAlone s) (pos : s.seq.pos = .frame sent)
    (total : sent + bytes.length = 6) (card : s.card = bytes ++ rest) :
    ∃ tr x, Exchanging bytes.length s { s with trace := tr, card := rest, seq := { s.seq with pos := .frame 6, rx := x } } := by
  induction bytes generalizing sent s with
  | nil =>
    obtain rfl : sent = 6 := total
    refine ⟨s.trace, s.seq.rx, ?_⟩
    rw [← pos, ← show s.card = rest from card]
    exact .refl s
  | cons b bytes ih =>
    rw [List.length_cons] at total
    have next := step_inFrame runs.legal runs.busy runs.alone pos
    rw [Laws.continueFrame_more (by omega)] at next
    let tx := frameByte (frameWord (s.cfg.cmdByte s.seq.cmd) s.seq.arg) sent
    have sends := exchangeAt_of_card (s := s) card (.frame (sent + 1)) tx
    obtain ⟨tr, x, rest⟩ := ih (s := exchangeAt (.frame (sent + 1)) tx s) ⟨runs.legal, runs.busy, runs.alone⟩ rfl (by omega)
      (by rw [Laws.exchangeAt_card, card]; rfl)
    refine ⟨tr, x, .cons next rfl ?_⟩
    rw [sends] at rest ⊢
    exact rest

/-- A poll loop that waits through `waiting`, as long as the budget lasts, and then receives `x`. -/
theorem exchanging_polls {c : Config} {p : Pos} {budget : Nat} {waits : Byte → Prop} (bound : budget ≤ 65535)
    (again : ∀ u : State, RunsAlone u → u.cfg = c → u.seq.pos = p → waits u.seq.rx → u.seq.n.toNat + 1 < budget →
      step u = .next (exchangeAt p fillerByte (countPoll u)))
    {waiting rest : List Byte} {x : Byte} {s : State} (runs : RunsAlone s) (config : s.cfg = c) (pos : s.seq.pos = p)
    (heard : s.seq.rx :: s.card = waiting ++ x :: rest) (waiting_waits : ∀ b ∈ waiting, waits b)
    (inside : s.seq.n.toNat + waiting.length < budget) :
    ∃ tr n, n.toNat = s.seq.n.toNat + waiting.length
      ∧ Exchanging waiting.length s { s with trace := tr, card := rest, seq := { s.seq with n := n, rx := x } } := by
  induction waiting generalizing s with
  | nil =>
    obtain ⟨received, left⟩ := List.cons.inj heard
    refine ⟨s.trace, s.seq.n, rfl, ?_⟩
    rw [← received, ← left]
    exact .refl s
  | cons b waiting ih =>
    obtain ⟨received, card⟩ := List.cons.inj heard
    rw [List.length_cons] at inside
    have next := again s runs config pos (by rw [received]; exact waiting_waits b List.mem_cons_self) (by omega)
    have counted := Laws.count_toNat (n := s.seq.n) (b := budget) (by omega) bound
    obtain ⟨y, ys, answers⟩ : ∃ y ys, waiting ++ x :: rest = y :: ys := List.exists_cons_of_ne_nil (by simp)
    have polls := exchangeAt_of_card (s := countPoll s) (card.trans answers) p fillerByte
    obtain ⟨tr, n, counts, run⟩ := ih (s := exchangeAt p fillerByte (countPoll s)) ⟨runs.legal, runs.busy, runs.alone⟩ config rfl
      (by rw [polls]; exact answers.symm) (fun a mem => waiting_waits a (List.mem_cons_of_mem b mem))
      (by rw [Laws.exchangeAt_seq]; simp only [countPoll, counted]; omega)
    refine ⟨tr, n, ?_, .cons next rfl ?_⟩
    · rw [counts, List.length_cons]
      simp only [Laws.exchangeAt_seq, countPoll, counted]
      omega
    · rw [polls, ← pos] at run ⊢
      exact run

/-! ## A command (R124 to R126) -/

/-- Inside the budget a not-ready byte polls again. -/
theorem step_respPoll_again {s : State} (runs : RunsAlone s) (pos : s.seq.pos = .respPoll) (notReady : s.seq.rx = notReadyByte)
    (inside : s.seq.n.toNat + 1 < s.cfg.respPollBudget) : step s = .next (exchangeAt .respPoll fillerByte (countPoll s)) := by
  rw [Laws.step_respPoll_notReady runs.legal runs.turn (runs.isCoherent (by simp [pos])) pos notReady, runs.taken,
    Laws.noResponse_again inside runs.budgets.1]

/-- The command's frame and the polls that wait for its response, up to the poll that receives `x`. -/
theorem exchanging_commandPolls {s : State} (runs : RunsAlone s) (caller : Caller) (c : Command) (arg : BitVec 32)
    {frame waiting rest : List Byte} {x : Byte} (six : frame.length = 6) (notReady : ∀ b ∈ waiting, b = notReadyByte)
    (inside : waiting.length < s.cfg.respPollBudget) (card : s.card = frame ++ (waiting ++ x :: rest)) :
    ∃ (tr : List BusEvent) (q : Sequencer), q.pos = .respPoll ∧ q.caller = caller ∧ q.rx = x ∧ q.n.toNat = waiting.length
      ∧ Exchanging (7 + waiting.length) (beforeFrame caller c arg s) { s with trace := tr, card := rest, seq := q } := by
  obtain ⟨tr, x', sent⟩ := exchanging_frame (s := beforeFrame caller c arg s) (sent := 0) ⟨runs.legal, runs.busy, runs.alone⟩ rfl
    (by omega) card
  rw [six] at sent
  let u : State := { beforeFrame caller c arg s with
    trace := tr, card := waiting ++ x :: rest, seq := { (beforeFrame caller c arg s).seq with pos := .frame 6, rx := x' } }
  obtain ⟨y, ys, answers⟩ : ∃ y ys, waiting ++ x :: rest = y :: ys := List.exists_cons_of_ne_nil (by simp)
  have polls := sent.snoc (step_afterFrame (s := u) runs.legal runs.busy runs.alone rfl) rfl
  rw [exchangeAt_of_card (s := clearPolls u) answers] at polls
  obtain ⟨tr', n, counts, waits⟩ := exchanging_polls (waits := (· = notReadyByte)) runs.budgets.1
    (fun v runs config pos notReady inside => step_respPoll_again runs pos notReady (by rw [config]; exact inside))
    (s := { clearPolls u with trace := tr ++ [.x fillerByte y], card := ys, seq := { (clearPolls u).seq with pos := .respPoll, rx := y } })
    ⟨runs.legal, runs.busy, runs.alone⟩ rfl rfl answers.symm notReady (by simpa [u, clearPolls] using inside)
  exact ⟨tr', _, rfl, rfl, rfl, by simpa [clearPolls] using counts, polls.trans waits⟩

/-- A whole command: the response and the byte of the dummy exchange have come. -/
theorem exchanging_command {s : State} (runs : RunsAlone s) (caller : Caller) (c : Command) (arg : BitVec 32)
    {frame waiting after : List Byte} {x d : Byte} (six : frame.length = 6) (notReady : ∀ b ∈ waiting, b = notReadyByte)
    (inside : waiting.length < s.cfg.respPollBudget) (ready : x ≠ notReadyByte)
    (card : s.card = frame ++ (waiting ++ x :: d :: after)) :
    ∃ (tr : List BusEvent) (q : Sequencer), q.pos = .respDummy ∧ q.caller = caller ∧ q.r = x ∧ q.timedout = false
      ∧ Exchanging (8 + waiting.length) (beforeFrame caller c arg s) { s with resp := x, trace := tr, card := after, seq := q } := by
  obtain ⟨tr, q, pos, called, rfl, -, polls⟩ := exchanging_commandPolls runs caller c arg six notReady inside card
  let u : State := { s with trace := tr, card := d :: after, seq := q }
  have runsOn : RunsAlone u := ⟨runs.legal, runs.busy, runs.alone⟩
  have next := Laws.step_respPoll_response (s := u) runsOn.legal runsOn.turn (runsOn.isCoherent (by simp [u, pos])) pos ready
  rw [runsOn.taken] at next
  have responds := polls.snoc next rfl
  rw [exchangeAt_of_card (b := d) (rest := after) rfl, Nat.add_right_comm] at responds
  let q' : Sequencer := { q with pos := .respDummy, n := q.n + 1#16, r := q.rx, timedout := false, rx := d }
  exact ⟨_, q', rfl, called, rfl, rfl, responds⟩

/-! ## SENDCMD (R123, R127) -/

/-- The first step of an operation is the first step of its command's frame. -/
theorem step_beforeFrame {s : State} (runs : RunsAlone s) (caller : Caller) (c : Command) (arg : BitVec 32) :
    step (beforeFrame caller c arg s) = .next (callCommand caller c arg s) := by
  rw [step_inFrame (s := beforeFrame caller c arg s) runs.legal runs.busy runs.alone rfl, continueFrame_beforeFrame]

/-- The last poll's not-ready byte fails a SENDCMD. -/
theorem step_sendcmd_timeout {s : State} (runs : RunsAlone s) (pos : s.seq.pos = .respPoll) (caller : s.seq.caller = .sendcmd)
    (notReady : s.seq.rx = notReadyByte) (last : s.seq.n.toNat + 1 = s.cfg.respPollBudget) :
    ∃ u : State, u = { s with resp := notReadyByte, seq := u.seq } ∧ step s = .next (failWith .cmdTimeout u) := by
  rw [Laws.step_respPoll_notReady runs.legal runs.turn (runs.isCoherent (by simp [pos])) pos notReady, runs.taken,
    Laws.noResponse_last last runs.budgets.1, returnCommand_timeout (by simp [caller]) rfl]
  exact ⟨_, rfl, rfl⟩

/-- Settles O30: the polls, then the response and the return, or the last poll and the timeout. -/
theorem sendcmdExchangeCounts : Obligations.SendcmdExchangeCounts := by
  intro s frame after k x d legal inv alone pos six ready
  have runs : RunsAlone s := ⟨legal, busy_of_running inv (by simp [pos]), alone⟩
  have selected : RunsAlone (select s) := ⟨runs.legal, runs.busy, runs.alone⟩
  let first := beforeFrame .sendcmd (sendcmdCommand s.lastop) s.arg (select s)
  have begins : step s = step first := by
    rw [Laws.step_start legal runs.turn (runs.isCoherent (by simp [pos])) pos, runs.taken]
    exact (step_beforeFrame selected _ _ _).symm
  have sameCount : exchanges first.trace = exchanges s.trace := exchanges_append _ _
  refine ⟨fun inside card => ?_, fun card => ?_⟩
  · obtain ⟨tr, q, dummy, caller, rfl, noTimeout, command⟩ := exchanging_command selected .sendcmd (sendcmdCommand s.lastop) s.arg
      (waiting := List.replicate k notReadyByte) six (fun b mem => List.eq_of_mem_replicate mem) (by simpa using inside) ready
      (d := d) (after := after) (by simpa [notReadyByte] using card)
    rw [List.length_replicate] at command
    let u : State := { select s with resp := q.r, trace := tr, card := after, seq := q }
    have runsOn : RunsAlone u := ⟨runs.legal, runs.busy, runs.alone⟩
    have last : step u = .next (succeed (deselect u)) := by
      rw [Laws.step_respDummy runsOn.legal runsOn.turn (runsOn.isCoherent (by simp [u, dummy])) dummy, runsOn.taken]
      simp [returnCommand, u, caller, noTimeout]
    refine ⟨succeed (deselect u), ?_, ?_, rfl, rfl, rfl, rfl, rfl, rfl, rfl, rfl, rfl⟩
    · calc core.run (6 + (k + 1) + 2) s = core.run (8 + k + 1) s := by congr 1; omega
        _ = core.run (8 + k + 1) first := run_congr begins _
        _ = core.run 1 u := run_add command.run 1
        _ = .next (succeed (deselect u)) := run_succ_of_step last 0
    · have ended : exchanges (succeed (deselect u)).trace = exchanges tr := exchanges_append _ _
      have count : exchanges tr = _ := command.count
      rw [ended, count, sameCount]
      omega
  · obtain ⟨⟨atLeastOne, -⟩, -⟩ := Laws.legal_bounds legal
    obtain ⟨k, budget⟩ := Nat.exists_eq_add_one_of_ne_zero (Nat.ne_of_gt atLeastOne)
    rw [budget, List.replicate_succ'] at card
    obtain ⟨tr, q, poll, caller, notReady, count, command⟩ := exchanging_commandPolls selected .sendcmd (sendcmdCommand s.lastop) s.arg
      (waiting := List.replicate k notReadyByte) (x := notReadyByte) (rest := after) six (fun b mem => List.eq_of_mem_replicate mem)
      (by simp [budget]) (by simpa [notReadyByte] using card)
    rw [List.length_replicate] at command count
    obtain ⟨v, kept, last⟩ := step_sendcmd_timeout (s := { select s with trace := tr, card := after, seq := q })
      ⟨runs.legal, runs.busy, runs.alone⟩ poll caller notReady (by rw [count]; exact budget.symm)
    refine ⟨failWith .cmdTimeout v, ?_, ?_, rfl, rfl, rfl, rfl, by rw [kept]; rfl, rfl, by rw [kept]; rfl, by rw [kept]; rfl,
      by rw [kept]; rfl⟩
    · calc core.run (6 + s.cfg.respPollBudget + 1) s = core.run (7 + k + 1) s := by congr 1; omega
        _ = core.run (7 + k + 1) first := run_congr begins _
        _ = core.run 1 _ := run_add command.run 1
        _ = .next (failWith .cmdTimeout v) := run_succ_of_step last 0
    · have ended : exchanges (failWith .cmdTimeout v).trace = exchanges tr := by
        rw [kept]
        exact exchanges_append _ _
      have counted : exchanges tr = _ := command.count
      rw [ended, counted, sameCount]
      omega

/-! ## The token wait (R181) -/

/-- The bytes a token wait skips: 0xFF, and in SKIP_UNTIL_FE every other byte but the token. -/
def Skipped (c : Config) (b : Byte) : Prop := b ≠ dataStartToken ∧ (b = notReadyByte ∨ c.tokenMatchMode = .skipUntilFe)

/-- Inside the budget a skipped byte polls again. -/
theorem step_tokenPoll_again {s : State} (runs : RunsAlone s) (pos : s.seq.pos = .tokenPoll) (skipped : Skipped s.cfg s.seq.rx)
    (inside : s.seq.n.toNat + 1 < s.cfg.tokenPollBudget) : step s = .next (exchangeAt .tokenPoll fillerByte (countPoll s)) := by
  have counted := Laws.count_toNat (n := s.seq.n) (b := s.cfg.tokenPollBudget) (by omega) runs.budgets.2
  rw [step_tokenPoll_skips runs.legal runs.turn (runs.isCoherent (by simp [pos])) pos skipped.1 skipped.2, runs.taken,
    Laws.pollToken_again (by simp only [countPoll, counted]; omega)]

/-! ## The window of a sector transfer (R180, R185) -/

/-- BUF `m` after data byte `i`, which is kept when it lies in the window of `cnt` bytes at `offs`. -/
def storeInWindow (offs cnt : Nat) (m : List Host.Cell) (i : Nat) (b : Byte) : List Host.Cell :=
  if offs ≤ i ∧ i < offs + cnt then Memory.write m (i - offs) b else m

/-- BUF `m` after the data bytes from byte `i` on. -/
def storeWindow (offs cnt : Nat) (m : List Host.Cell) (i : Nat) : List Byte → List Host.Cell
  | [] => m
  | b :: bytes => storeWindow offs cnt (storeInWindow offs cnt m i b) (i + 1) bytes

theorem read_storeInWindow (offs cnt : Nat) (m : List Host.Cell) (i : Nat) (b : Byte) (j : Nat) :
    Memory.read (storeInWindow offs cnt m i b) j = if j < cnt ∧ i = offs + j then some b else Memory.read m j := by
  unfold storeInWindow
  by_cases window : offs ≤ i ∧ i < offs + cnt
  · rw [if_pos window]
    by_cases here : i = offs + j
    · rw [if_pos (by omega), here, Nat.add_sub_cancel_left, Laws.read_write_same]
    · rw [if_neg (by omega), Laws.read_write_other _ _ (by omega)]
  · rw [if_neg window, if_neg (by omega)]

/-- BUF[j] is the transfer's byte `offs + j` when that byte is one of those stored and lies in the window, and is kept otherwise. -/
theorem read_storeWindow (offs cnt : Nat) (bytes : List Byte) (m : List Host.Cell) (i j : Nat) :
    Memory.read (storeWindow offs cnt m i bytes) j
      = if j < cnt ∧ i ≤ offs + j ∧ offs + j < i + bytes.length then bytes[offs + j - i]? else Memory.read m j := by
  induction bytes generalizing m i with
  | nil => rw [storeWindow, if_neg (by simp)]
  | cons b bytes ih =>
    rw [storeWindow, ih, read_storeInWindow, List.length_cons]
    by_cases here : i = offs + j
    · rw [if_neg (by omega), ← here]
      simp [here]
    · by_cases later : j < cnt ∧ i + 1 ≤ offs + j ∧ offs + j < i + 1 + bytes.length
      · rw [if_pos later, if_pos (by omega), show offs + j - i = offs + j - (i + 1) + 1 by omega, List.getElem?_cons_succ]
      · rw [if_neg later, if_neg (by omega), if_neg (by omega)]

/-- Every byte of the window is stored by a whole sector. -/
theorem read_storeWindow_sector {offs cnt : Nat} (fits : offs + cnt ≤ 512) {d : List Byte} (sector : d.length = 512)
    (m : List Host.Cell) (j : Nat) :
    Memory.read (storeWindow offs cnt m 0 d) j = if j < cnt then d[offs + j]? else Memory.read m j := by
  rw [read_storeWindow, Nat.sub_zero]
  by_cases window : j < cnt
  · rw [if_pos (by omega), if_pos window]
  · rw [if_neg (by omega), if_neg window]

/-! ## The data phase (R182 to R184) -/

/-- At position `p` the transfer keeps the window of `cnt` bytes at `offs`. -/
def KeepsWindow (p : Pos) (s : State) (offs cnt : Nat) : Prop :=
  (p = .readData ∧ offs = 0 ∧ cnt = 512) ∨ (p = .partData ∧ offs = s.offs.toNat ∧ cnt = s.cnt.toNat)

theorem inWindow_iff {s : State} {i : Nat} : inWindow s i = true ↔ s.offs.toNat ≤ i ∧ i < s.offs.toNat + s.cnt.toNat := by
  rw [inWindow, Bool.and_eq_true, decide_eq_true_eq, decide_eq_true_eq, windowEnd]

/-- A step that takes data byte `i` stores it in the window and receives what follows. -/
theorem step_dataByte {s : State} {p : Pos} {offs cnt : Nat} (runs : RunsAlone s) (window : KeepsWindow p s offs cnt)
    (pos : s.seq.pos = p) (sector : s.seq.i.toNat < 512) :
    step s = .next (nextData p { s with buf := storeInWindow offs cnt s.buf s.seq.i.toNat s.seq.rx }) := by
  obtain ⟨rfl, rfl, rfl⟩ | ⟨rfl, rfl, rfl⟩ := window
  · rw [Laws.step_readData runs.legal runs.turn (runs.isCoherent (by simp [pos])) pos, runs.taken, storeReadData, storeInWindow,
      if_pos (by omega)]
    rfl
  · rw [Laws.step_partData runs.legal runs.turn (runs.isCoherent (by simp [pos])) pos, runs.taken, storePartData, storeInWindow]
    by_cases inside : s.offs.toNat ≤ s.seq.i.toNat ∧ s.seq.i.toNat < s.offs.toNat + s.cnt.toNat
    · rw [if_pos inside, if_pos (inWindow_iff.mpr inside)]
      rfl
    · rw [if_neg inside, if_neg (inWindow_iff.not.mpr inside)]

/-- The data bytes of a transfer are stored one by one, and then the first checksum byte is received. -/
theorem exchanging_data {p : Pos} {offs cnt : Nat} {data rest : List Byte} {c : Byte} {s : State} (runs : RunsAlone s)
    (window : KeepsWindow p s offs cnt) (pos : s.seq.pos = p) (some : data ≠ []) (total : s.seq.i.toNat + data.length = 512)
    (heard : s.seq.rx :: s.card = data ++ c :: rest) :
    ∃ (tr : List BusEvent) (q : Sequencer), q.pos = .crcFirst ∧ Exchanging data.length s
      { s with buf := storeWindow offs cnt s.buf s.seq.i.toNat data, trace := tr, card := rest, seq := q } := by
  induction data generalizing s with
  | nil => exact absurd rfl some
  | cons b data ih =>
    obtain ⟨rfl, card⟩ := List.cons.inj heard
    rw [List.length_cons] at total
    have next := step_dataByte runs window pos (by omega)
    let u : State := { s with buf := storeInWindow offs cnt s.buf s.seq.i.toNat s.seq.rx }
    cases data with
    | nil =>
      rw [Laws.nextData_done (s := u) (by simp [u] at total ⊢; omega)] at next
      have run := (Exchanging.refl s).snoc next rfl
      rw [exchangeAt_of_card (s := u) card] at run
      exact ⟨_, _, rfl, run⟩
    | cons a data =>
      rw [List.length_cons] at total
      have more : s.seq.i.toNat < 511 := by omega
      rw [Laws.nextData_more (s := u) more] at next
      have index := Laws.index_toNat more
      have received := exchangeAt_of_card (s := setIndex (u.seq.i + 1#10) u) card p fillerByte
      obtain ⟨tr, q, atCrc, run⟩ := ih (s := exchangeAt p fillerByte (setIndex (u.seq.i + 1#10) u))
        ⟨runs.legal, runs.busy, runs.alone⟩ window rfl (List.cons_ne_nil _ _)
        (by rw [received]; simp only [setIndex, u, index, List.length_cons]; omega) (by rw [received]; rfl)
      refine ⟨tr, q, atCrc, .cons next rfl ?_⟩
      rw [received] at run ⊢
      simp only [setIndex, u, index] at run ⊢
      exact run

/-- From the first data byte on: the sector, the checksum and the filler byte. -/
theorem exchanging_sector {p : Pos} {offs cnt : Nat} {d after : List Byte} {c1 c2 filler : Byte} {s : State} (runs : RunsAlone s)
    (window : KeepsWindow p s offs cnt) (pos : s.seq.pos = p) (first : s.seq.i = 0#10) (sector : d.length = 512)
    (heard : s.seq.rx :: s.card = d ++ c1 :: c2 :: filler :: after) :
    ∃ (tr : List BusEvent) (q : Sequencer), q.pos = .trailer ∧ Exchanging 514 s
      { s with buf := storeWindow offs cnt s.buf 0 d, trace := tr, card := after, seq := q } := by
  obtain ⟨tr, q, atCrc, data⟩ := exchanging_data runs window pos (List.ne_nil_of_length_eq_add_one sector)
    (by rw [first, sector]; rfl) heard
  rw [first, sector] at data
  let u : State := { s with buf := storeWindow offs cnt s.buf 0 d, trace := tr, card := c2 :: filler :: after, seq := q }
  have runsOn : RunsAlone u := ⟨runs.legal, runs.busy, runs.alone⟩
  have crc := Laws.step_crcFirst runsOn.legal runsOn.turn (runsOn.isCoherent (by simp [u, atCrc])) atCrc
  rw [runsOn.taken, exchangeAt_of_card (s := u) rfl, ← exchangeAt_of_card (s := u) rfl .crcSecond fillerByte] at crc
  let v : State := { u with trace := tr ++ [.x fillerByte c2], card := filler :: after, seq := { q with pos := .crcSecond, rx := c2 } }
  have next : step v = .next (exchangeAt .trailer fillerByte v) := by
    rw [Laws.step_crcSecond (s := v) runsOn.legal runsOn.turn (by simp [coherent, v, u, runs.busy]) rfl,
      turnTaken_of_agenda_nil (s := v) runs.alone]
  have run := (data.snoc crc rfl).trans (Exchanging.snoc (.refl v) next rfl)
  rw [exchangeAt_of_card (s := v) rfl] at run
  exact ⟨_, _, rfl, run⟩

/-! ## READ and RDPART (R180, R185) -/

/-- From the first data byte's token wait on: `TokenWait` skips, then the token begins the data phase. -/
theorem exchanging_tokenWait {s : State} (runs : RunsAlone s) (pos : s.seq.pos = .tokenPoll) (first : s.seq.n = 0#16)
    {skip rest : List Byte} {b : Byte} (skipped : ∀ b ∈ skip, Skipped s.cfg b) (inside : skip.length < s.cfg.tokenPollBudget)
    (heard : s.seq.rx :: s.card = skip ++ dataStartToken :: b :: rest) :
    ∃ (tr : List BusEvent) (q : Sequencer), q.pos = dataPos s.seq.caller ∧ q.i = 0#10 ∧ q.rx = b
      ∧ Exchanging (skip.length + 1) s { s with trace := tr, card := rest, seq := q } := by
  obtain ⟨tr, n, -, polls⟩ := exchanging_polls (waits := Skipped s.cfg) runs.budgets.2
    (fun u runs config pos skipped inside => step_tokenPoll_again runs pos (by rw [config]; exact skipped) (by rw [config]; exact inside))
    runs rfl pos heard skipped (by simpa [first] using inside)
  let u : State := { s with trace := tr, card := b :: rest, seq := { s.seq with n := n, rx := dataStartToken } }
  have runsOn : RunsAlone u := ⟨runs.legal, runs.busy, runs.alone⟩
  have next := Laws.step_tokenPoll_token (s := u) runsOn.legal runsOn.turn (runsOn.isCoherent (by simp [u, pos])) pos rfl
  rw [runsOn.taken] at next
  have run := polls.snoc next rfl
  rw [exchangeAt_of_card (b := b) (rest := rest) rfl] at run
  exact ⟨_, _, rfl, rfl, rfl, run⟩

/-- The answers of a card that accepts a block read at poll `k + 1`, has `skip` skipped and sends the sector `d`. -/
structure SectorAnswers (cfg : Config) (card frame skip d after : List Byte) (k : Nat) (dummy c1 c2 filler : Byte) : Prop where
  frameLength : frame.length = 6
  polls : k < cfg.respPollBudget
  skips : skip.length < cfg.tokenPollBudget
  skipped : ∀ b ∈ skip, Skipped cfg b
  sector : d.length = 512
  queue : card = frame ++ List.replicate k notReadyByte ++ [okByte, dummy] ++ skip ++ [dataStartToken] ++ d ++ [c1, c2, filler] ++ after

/-- The whole of a block read between its selection and its end. -/
theorem exchanging_blockRead {s : State} (runs : RunsAlone s) {caller : Caller} (reads : caller = .read ∨ caller = .rdpart)
    {offs cnt : Nat} (window : KeepsWindow (dataPos caller) s offs cnt) (c : Command) (arg : BitVec 32)
    {frame skip d after : List Byte} {k : Nat} {dummy c1 c2 filler : Byte}
    (answers : SectorAnswers s.cfg s.card frame skip d after k dummy c1 c2 filler) :
    ∃ (tr : List BusEvent) (q : Sequencer), q.pos = .trailer ∧ Exchanging (8 + k + 1 + (skip.length + 1) + 514)
      (beforeFrame caller c arg s)
      { s with resp := okByte, buf := storeWindow offs cnt s.buf 0 d, trace := tr, card := after, seq := q } := by
  obtain ⟨six, pollsFit, skipsFit, skipped, sector, card⟩ := answers
  obtain ⟨a, data, rfl⟩ := List.exists_cons_of_ne_nil (List.ne_nil_of_length_eq_add_one sector)
  obtain ⟨y, ys, waits⟩ : ∃ y ys, skip ++ dataStartToken :: a :: (data ++ c1 :: c2 :: filler :: after) = y :: ys :=
    List.exists_cons_of_ne_nil (by simp)
  obtain ⟨tr, q, pos, rfl, response, noTimeout, command⟩ := exchanging_command runs caller c arg (x := okByte) (d := dummy)
    (after := y :: ys) (waiting := List.replicate k notReadyByte) six (fun b mem => List.eq_of_mem_replicate mem) (by simpa using pollsFit) (by decide)
    (by rw [card, ← waits]; simp)
  rw [List.length_replicate] at command
  let u : State := { s with resp := okByte, trace := tr, card := y :: ys, seq := q }
  have runsOn : RunsAlone u := ⟨runs.legal, runs.busy, runs.alone⟩
  have accepts : step u = .next (exchangeAt .tokenPoll fillerByte (clearPolls u)) := by
    rw [Laws.step_respDummy runsOn.legal runsOn.turn (runsOn.isCoherent (by simp [u, pos])) pos, runsOn.taken,
      returnCommand_block (by obtain read | rdpart := reads <;> simp [u, *]), Laws.checkBlockResponse_ok noTimeout response]
    obtain read | rdpart := reads <;> simp [afterBlockCommand, u, *] <;> rfl
  have toWait := command.snoc accepts rfl
  rw [exchangeAt_of_card (s := clearPolls u) rfl] at toWait
  obtain ⟨tr', q', pos', first, rfl, toData⟩ := exchanging_tokenWait (s := { clearPolls u with
    trace := tr ++ [.x fillerByte y], card := ys, seq := { (clearPolls u).seq with pos := .tokenPoll, rx := y } })
    ⟨runs.legal, runs.busy, runs.alone⟩ rfl rfl skipped skipsFit waits.symm
  obtain ⟨tr'', q'', atEnd, toEnd⟩ := exchanging_sector
    (s := { u with trace := tr', card := data ++ c1 :: c2 :: filler :: after, seq := q' })
    ⟨runs.legal, runs.busy, runs.alone⟩ window pos' first sector rfl
  exact ⟨tr'', q'', atEnd, (toWait.trans toData).trans toEnd⟩

/-- The state in which the request of a block read is accepted: the sequencer stands before the operation's first statement. -/
def acceptedRead (op : Op) (v : Byte) (s : State) : State :=
  { s with agenda := [], lastop := v &&& 0x77#8, done := false, fail := false, err := .none, busy := true,
           seq := { s.seq with pos := .start op } }

/-- The whole of a block read from its request, which its host step has accepted. -/
theorem run_blockRead {s : State} {v : Byte} {caller : Caller} (legal : s.cfg.legal = true)
    (reads : caller = .read ∨ caller = .rdpart) (request : step s = .next (acceptedRead (callerOp caller) v s))
    {offs cnt : Nat} (window : KeepsWindow (dataPos caller) s offs cnt) {frame skip d after : List Byte} {k : Nat}
    {dummy c1 c2 filler : Byte} (answers : SectorAnswers s.cfg s.card frame skip d after k dummy c1 c2 filler) :
    ∃ (u : State), core.run (2 + (7 + (k + 1)) + (skip.length + 1) + 515) s = .next (succeed (deselect u))
      ∧ u = { acceptedRead (callerOp caller) v s with
                sel := true, resp := okByte, buf := storeWindow offs cnt s.buf 0 d, trace := u.trace, card := after, seq := u.seq }
      ∧ exchanges (succeed (deselect u)).trace = exchanges s.trace + ((7 + (k + 1)) + (skip.length + 1) + 515) := by
  let a := acceptedRead (callerOp caller) v s
  have runs : RunsAlone a := ⟨legal, rfl, rfl⟩
  have selected : RunsAlone (select a) := ⟨legal, rfl, rfl⟩
  let first := beforeFrame caller .readSingle (blockArgument s.arg) (select a)
  have begins : step a = step first := by
    rw [Laws.step_start runs.legal runs.turn rfl rfl, runs.taken, step_beforeFrame selected]
    obtain rfl | rfl := reads <;> rfl
  obtain ⟨tr, q, atEnd, read⟩ := exchanging_blockRead selected reads window .readSingle (blockArgument s.arg) answers
  let u : State := { select a with resp := okByte, buf := storeWindow offs cnt s.buf 0 d, trace := tr, card := after, seq := q }
  have runsOn : RunsAlone u := ⟨legal, rfl, rfl⟩
  have last : step u = .next (succeed (deselect u)) := by
    rw [Laws.step_trailer runsOn.legal runsOn.turn (runsOn.isCoherent (by simp [u, atEnd])) atEnd, runsOn.taken]
  refine ⟨u, ?_, rfl, ?_⟩
  · let n := 8 + k + 1 + (skip.length + 1) + 514
    calc core.run (2 + (7 + (k + 1)) + (skip.length + 1) + 515) s = core.run (n + 1 + 1) s := by congr 1; omega
      _ = core.run (n + 1) a := run_succ_of_step request _
      _ = core.run (n + 1) first := run_congr begins _
      _ = core.run 1 u := run_add read.run 1
      _ = .next (succeed (deselect u)) := run_succ_of_step last 0
  · have ended : exchanges (succeed (deselect u)).trace = exchanges tr := exchanges_append _ _
    have counted : exchanges tr = _ := read.count
    have selects : exchanges first.trace = exchanges s.trace := exchanges_append _ _
    rw [ended, counted, selects]
    omega

/-- The bytes a token wait skips, as the card's answers are described. -/
theorem skipped_of_mode {c : Config} {b : Byte} (notToken : b ≠ dataStartToken)
    (mode : c.tokenMatchMode = .firstNonFf → b = notReadyByte) :
    Skipped c b := by
  refine ⟨notToken, ?_⟩
  cases known : c.tokenMatchMode with
  | firstNonFf => exact .inl (mode known)
  | skipUntilFe => exact .inr rfl

/-- A request on the agenda's top is the row of its OP. -/
theorem step_requestRow {s : State} {v : Byte} {i : Instr} (legal : s.cfg.legal = true) (asked : s.agenda = [.host (.write 0x200#10 1 v)])
    (row : decodeRequest v = i) : step s = exec i { s with agenda := [] } := by
  rw [step_hostRequest (v := v) legal (by simp [nextTurn, asked]), row, turnTaken, asked]
  rfl

theorem decodeRequest_read (ignored : BitVec 5) : decodeRequest (ignored ++ 3#3) = .read ignored := by
  revert ignored; decide

theorem decodeRequest_rdpart (ignored : BitVec 5) : decodeRequest (ignored ++ 4#3) = .rdpart ignored := by
  revert ignored; decide

/-- Settles O41: the window is the whole sector. -/
theorem readStoresTheSector : Obligations.ReadStoresTheSector := by
  intro s ignored frame skip d after k dummy c1 c2 filler legal inv rest session asked six polls skips sector skipped card
  obtain ⟨accepted, -⟩ := blockRequestsAccepted { s with agenda := [] } ignored rest session
  have request := (step_requestRow legal asked (decodeRequest_read ignored)).trans accepted
  obtain ⟨u, run, kept, count⟩ := run_blockRead (caller := .read) legal (.inl rfl) request (.inl ⟨rfl, rfl, rfl⟩)
    ⟨six, polls, skips, fun b mem => skipped_of_mode (skipped b mem).1 (skipped b mem).2, sector, card⟩
  refine ⟨_, run, fun j inSector => ?_, rfl, rfl, rfl, rfl, rfl, by rw [kept]; rfl, count, by rw [kept]; rfl, by rw [kept]; rfl,
    by rw [kept]; rfl, by rw [kept]; rfl⟩
  have stored : u.buf = storeWindow 0 512 s.buf 0 d := by rw [kept]
  exact (congrArg (Memory.read · j) stored).trans (by rw [read_storeWindow_sector (by decide) sector, if_pos inSector, Nat.zero_add])

/-- Settles O42: the window is the host's. -/
theorem rdpartStoresTheWindow : Obligations.RdpartStoresTheWindow := by
  intro s ignored frame skip d after k dummy c1 c2 filler legal inv rest session fits asked six polls skips sector skipped card
  obtain ⟨-, accepted, -⟩ := blockRequestsAccepted { s with agenda := [] } ignored rest session
  have request := (step_requestRow legal asked (decodeRequest_rdpart ignored)).trans (accepted fits)
  obtain ⟨u, run, kept, count⟩ := run_blockRead (caller := .rdpart) legal (.inr rfl) request (.inr ⟨rfl, rfl, rfl⟩)
    ⟨six, polls, skips, fun b mem => skipped_of_mode (skipped b mem).1 (skipped b mem).2, sector, card⟩
  have stored (j : Nat) : Memory.read (succeed (deselect u)).buf j =
      if j < s.cnt.toNat then d[s.offs.toNat + j]? else Memory.read s.buf j := by
    have window : u.buf = storeWindow s.offs.toNat s.cnt.toNat s.buf 0 d := by rw [kept]
    exact (congrArg (Memory.read · j) window).trans (read_storeWindow_sector fits sector s.buf j)
  exact ⟨_, run, fun j inside => (stored j).trans (if_pos inside), fun j outside => (stored j).trans (if_neg (Nat.not_lt.mpr outside)),
    rfl, rfl, rfl, rfl, rfl, count, by rw [kept]; rfl⟩

end Sys2Proof.Proofs
end

section
/-! The write data phase while only the sequencer moves (43_block_write.md R211). -/

namespace Sys2Proof.Proofs

open Sys2Proof.Machine

/-! ## The bytes that BUF gives (10_state.md R34) -/

/-- `b` are the bytes that BUF `m` gives from byte `i` on: each written one, and for each unwritten one a draw from `lo` to below `hi`. -/
structure BufGives (m : List Host.Cell) (i lo hi : Nat) (b : List Byte) : Prop where
  draws : lo ≤ hi
  written : ∀ j v, j < b.length → Memory.read m (i + j) = some v → b[j]? = some v
  drawn : ∀ j, j < b.length → Memory.read m (i + j) = none → ∃ k, lo ≤ k ∧ k < hi ∧ b[j]? = some (Config.freeByte k)

theorem BufGives.nil (m : List Host.Cell) (i : Nat) {lo hi : Nat} (draws : lo ≤ hi) : BufGives m i lo hi [] := ⟨draws, nofun, nofun⟩

/-- The next byte that BUF gives, with the draw it uses up, before the others. -/
theorem BufGives.cons {s : State} {i lo hi : Nat} {b : List Byte} (after : (bufDraw s i).draws ≤ lo)
    (rest : BufGives s.buf (i + 1) lo hi b) : BufGives s.buf i s.draws hi (bufByte s i :: b) := by
  obtain ⟨more, written, drawn⟩ := rest
  have grows : s.draws ≤ lo := by
    refine le_trans ?_ after
    unfold bufDraw
    split
    · exact le_rfl
    · exact Nat.le_succ _
  refine ⟨grows.trans more, fun j v inside found => ?_, fun j inside missing => ?_⟩
  · cases j with
    | zero =>
      rw [Nat.add_zero] at found
      simp [bufByte, found]
    | succ j => exact written j v (Nat.lt_of_succ_lt_succ inside) (by rw [Nat.add_assoc, Nat.add_comm 1 j]; exact found)
  · cases j with
    | zero =>
      rw [Nat.add_zero] at missing
      have drew : (bufDraw s i).draws = s.draws + 1 := by simp [bufDraw, missing]
      exact ⟨s.draws, le_rfl, by omega, by simp [bufByte, missing]⟩
    | succ j =>
      obtain ⟨k, low, high, given⟩ := drawn j (Nat.lt_of_succ_lt_succ inside) (by rw [Nat.add_assoc, Nat.add_comm 1 j]; exact missing)
      exact ⟨k, grows.trans low, high, given⟩

/-- A byte that reads as written lies in BUF. -/
theorem lt_of_read_some {m : List Host.Cell} {j : Nat} {v : Byte} (canonical : Memory.wf m) (found : Memory.read m j = some v) :
    j < 512 := by
  suffices mem : (j, v) ∈ m from canonical.2 _ mem
  clear canonical
  induction m with
  | nil => exact nomatch found
  | cons c rest ih =>
    obtain ⟨k, w⟩ := c
    rw [Memory.read] at found
    split at found
    next here =>
      obtain rfl := Option.some.inj found
      exact here ▸ List.mem_cons_self
    next => exact List.mem_cons_of_mem _ (ih found)

/-! ## The data bytes -/

/-- `t` is `s` after data byte `s.seq.i` and `left` more were sent, `b` in order: only the bus, the card's answers, the draws and the
hidden values have moved. -/
structure DataSent (left : Nat) (s t : State) (b : List Byte) : Prop where
  bytes : sentBytes t.trace = sentBytes s.trace ++ b
  count : exchanges t.trace = exchanges s.trace + (left + 1)
  length : b.length = left + 1
  gives : BufGives s.buf s.seq.i.toNat s.draws t.draws b
  kept : t = { s with trace := t.trace, card := t.card, draws := t.draws,
                      seq := { s.seq with pos := .writeData, i := 511#10, rx := t.seq.rx } }

theorem sendData_trace (s : State) : ∃ rx, (sendData s).trace = s.trace ++ [.x (bufByte s s.seq.i.toNat) rx] := by
  refine ⟨(sendData s).seq.rx, ?_⟩
  unfold sendData bufDraw
  split <;> rfl

theorem sendData_kept (s : State) :
    sendData s = { s with trace := (sendData s).trace, card := (sendData s).card, draws := (sendData s).draws,
                          seq := { s.seq with pos := .writeData, rx := (sendData s).seq.rx } } := by
  unfold sendData bufDraw
  split <;> rfl

theorem draws_le_sendData (s : State) : (bufDraw s s.seq.i.toNat).draws ≤ (sendData s).draws := Nat.le_add_right _ _

theorem DataSent.last {s : State} (last : s.seq.i.toNat = 511) : DataSent 0 s (sendData s) [bufByte s s.seq.i.toNat] := by
  obtain ⟨rx, sent⟩ := sendData_trace s
  have index : s.seq.i = 511#10 := BitVec.eq_of_toNat_eq last
  refine ⟨?_, ?_, rfl, .cons (draws_le_sendData s) (.nil _ _ le_rfl), ?_⟩
  · rw [sent, sentBytes_append]; rfl
  · rw [sent, exchanges_append]; rfl
  · rw [← index]
    exact sendData_kept s

theorem DataSent.cons {left : Nat} {s t : State} {b : List Byte} (more : s.seq.i.toNat < 511)
    (rest : DataSent left (setIndex (s.seq.i + 1#10) (sendData s)) t b) : DataSent (left + 1) s t (bufByte s s.seq.i.toNat :: b) := by
  obtain ⟨bytes, count, length, gives, kept⟩ := rest
  obtain ⟨rx, sent⟩ := sendData_trace s
  have sends := sendData_kept s
  have sameBuf : (sendData s).buf = s.buf := by rw [sends]
  rw [Laws.setIndex_trace, sent] at bytes count
  rw [Laws.setIndex_buf, sameBuf, Laws.setIndex_draws] at gives
  refine ⟨?_, ?_, by rw [List.length_cons, length], .cons (draws_le_sendData s) ?_, ?_⟩
  · rw [bytes, sentBytes_append, List.append_assoc]; rfl
  · rw [count, exchanges_append]
    simp only [exchanges]
    omega
  · rw [← Laws.index_toNat more]
    exact gives
  · rw [sends] at kept
    exact kept

/-- The sequencer alone sends the data bytes that are left. -/
theorem run_sendData {left : Nat} {s : State} (runs : RunsAlone s) (index : s.seq.i.toNat + left = 511) :
    ∃ t b, core.run left (sendData s) = .next t ∧ DataSent left s t b := by
  induction left generalizing s with
  | zero => exact ⟨sendData s, _, rfl, .last index⟩
  | succ left ih =>
    have more : s.seq.i.toNat < 511 := by omega
    have sends := sendData_kept s
    have runsOn : RunsAlone (sendData s) := by
      rw [sends]
      exact ⟨runs.legal, runs.busy, runs.alone⟩
    have index' : (sendData s).seq.i = s.seq.i := by rw [sends]
    have pos : (sendData s).seq.pos = .writeData := by rw [sends]
    have next : step (sendData s) = .next (sendData (setIndex (s.seq.i + 1#10) (sendData s))) := by
      rw [Laws.step_writeData runsOn.legal runsOn.turn (runsOn.isCoherent (by simp [pos])) pos, runsOn.taken]
      simp only [continueSendData, index', if_pos more]
    obtain ⟨t, b, run, sent⟩ := ih (s := setIndex (s.seq.i + 1#10) (sendData s)) ⟨runsOn.legal, runsOn.busy, runsOn.alone⟩
      (by simp only [setIndex, Laws.index_toNat more]; omega)
    exact ⟨t, _, (run_succ_of_step next left).trans run, sent.cons more⟩

/-- Settles O44: the dummy byte, the token, then the data bytes one by one. -/
theorem writeSendsTheBuffer : Obligations.WriteSendsTheBuffer := by
  intro s legal inv alone pos caller ok
  have runs : RunsAlone s := ⟨legal, busy_of_running inv (by simp [pos]), alone⟩
  obtain ⟨noTimeout, latched, -⟩ := inv.responseLatched pos
  let dummy := exchangeAt .writeDummy fillerByte s
  have begins : step s = .next dummy := by
    rw [Laws.step_respDummy legal runs.turn inv.positionCoherent pos, runs.taken, returnCommand_block (by simp [caller]),
      Laws.checkBlockResponse_ok noTimeout (latched.trans ok)]
    simp only [afterBlockCommand, caller]
    rfl
  have runsDummy : RunsAlone dummy := ⟨runs.legal, runs.busy, runs.alone⟩
  let token := exchangeAt .writeToken dataStartToken dummy
  have sendsToken : step dummy = .next token := by
    rw [Laws.step_writeDummy runsDummy.legal runsDummy.turn (runsDummy.isCoherent (by simp [dummy])) rfl, runsDummy.taken]
  have runsToken : RunsAlone token := ⟨runs.legal, runs.busy, runs.alone⟩
  have sendsFirst : step token = .next (sendData (setIndex 0#10 token)) := by
    rw [Laws.step_writeToken runsToken.legal runsToken.turn (runsToken.isCoherent (by simp [token])) rfl, runsToken.taken]
    rfl
  obtain ⟨t, b, run, bytes, count, length, gives, kept⟩ := run_sendData (s := setIndex 0#10 token) (left := 511)
    ⟨runs.legal, runs.busy, runs.alone⟩ rfl
  have runsOn : RunsAlone t := by
    rw [kept]
    exact ⟨runs.legal, runs.busy, runs.alone⟩
  have atEnd : t.seq.pos = .writeData := by rw [kept]
  have index : t.seq.i = 511#10 := by rw [kept]
  have polls : step t = .next (exchangeAt .drespPoll fillerByte (clearPolls t)) := by
    rw [Laws.step_writeData runsOn.legal runsOn.turn (runsOn.isCoherent (by simp [atEnd])) atEnd, runsOn.taken]
    simp only [continueSendData, index]
    rfl
  refine ⟨t, _, b, ?_, polls, length, fun j v found => ?_, fun j inSector missing => ?_, ?_⟩
  · calc core.run 514 s = core.run 513 dummy := run_succ_of_step begins 513
      _ = core.run 512 token := run_succ_of_step sendsToken 512
      _ = core.run 511 (sendData (setIndex 0#10 token)) := run_succ_of_step sendsFirst 511
      _ = .next t := run
  · have inSector := lt_of_read_some inv.bufCanonical found
    exact gives.written j v (by omega) (by rw [Laws.setIndex_buf]; simpa [token, dummy] using found)
  · obtain ⟨k, low, high, given⟩ := gives.drawn j (by omega) (by rw [Laws.setIndex_buf]; simpa [token, dummy] using missing)
    refine ⟨k, le_trans ?_ low, high, given⟩
    exact (Nat.le_add_right _ _).trans (Nat.le_add_right _ _)
  · have sent : sentBytes token.trace = sentBytes s.trace ++ [0xFF#8, 0xFE#8] := by
      rw [sentBytes_exchangeAt, sentBytes_exchangeAt, List.append_assoc]
      rfl
    have counted : exchanges token.trace = exchanges s.trace + 2 := by rw [exchanges_exchangeAt, exchanges_exchangeAt]
    refine ⟨bytes.trans (congrArg (· ++ b) sent), by rw [count, Laws.setIndex_trace, counted], ?_⟩
    have fields : dataKept s t ∧ t.resp = s.resp ∧ t.dresp = s.dresp ∧ t.session = s.session ∧ t.att = s.att ∧ t.sel = s.sel
        ∧ t.clkfast = s.clkfast ∧ t.busy = true ∧ t.done = s.done ∧ t.fail = s.fail ∧ t.err = s.err := by
      rw [kept]
      exact ⟨⟨rfl, rfl, rfl, rfl, rfl, rfl, rfl⟩, rfl, rfl, rfl, rfl, rfl, rfl, runs.busy, rfl, rfl, rfl⟩
    obtain ⟨data, resp, dresp, session, att, sel, clkfast, busy, done, fail, err⟩ := fields
    exact ⟨data, resp, dresp, session, att, sel, clkfast, busy, done, fail, err, rfl, rfl, rfl⟩

end Sys2Proof.Proofs
end

section
/-! Bounded termination (70_reset_and_hazards.md R293): the exchanges that an operation can still make go down with every exchange. -/

namespace Sys2Proof.Proofs

open Sys2Proof.Machine

/-! ## The exchanges that are left -/

/-- The most exchanges after SendCommand has returned to a call site, where ATT is `att`. -/
def leftAfterReturn (c : Config) (caller : Caller) (att : Nat) : Nat :=
  match caller with
  | .sendcmd | .initOpCond => 0
  | .initIdle => (c.idleAttempts - att + c.initAttempts + 2) * commandBound c
  | .initInit => (c.initAttempts - att + 2) * commandBound c
  | .initApp => commandBound c
  | .read | .rdpart => c.tokenPollBudget + 515
  | .write => 514 + c.wrespPollBudget + c.busyPollBudget + 1

/-- The most exchanges that the running operation can still make. -/
def exchangesLeft (s : State) : Nat :=
  match s.seq.pos with
  | .idle | .trailer => 0
  | .start op => exchangeBound s.cfg op
  | .filler => s.cfg.powerupFillerBytes - s.seq.j.toNat + (s.cfg.idleAttempts + s.cfg.initAttempts + 2) * commandBound s.cfg
  | .frame sent => 6 - sent + s.cfg.respPollBudget + 1 + leftAfterReturn s.cfg s.seq.caller s.att.toNat
  | .respPoll => s.cfg.respPollBudget - s.seq.n.toNat + leftAfterReturn s.cfg s.seq.caller s.att.toNat
  | .respDummy => leftAfterReturn s.cfg s.seq.caller s.att.toNat
  | .tokenPoll => s.cfg.tokenPollBudget - s.seq.n.toNat + 514
  | .readData | .partData => 511 - s.seq.i.toNat + 3
  | .crcFirst => 2
  | .crcSecond => 1
  | .writeDummy => 513 + s.cfg.wrespPollBudget + s.cfg.busyPollBudget + 1
  | .writeToken => 512 + s.cfg.wrespPollBudget + s.cfg.busyPollBudget + 1
  | .writeData => 511 - s.seq.i.toNat + s.cfg.wrespPollBudget + s.cfg.busyPollBudget + 1
  | .drespPoll => s.cfg.wrespPollBudget - s.seq.n.toNat + s.cfg.busyPollBudget
  | .busyPoll => s.cfg.busyPollBudget - s.seq.n.toNat

/-- A command whose first byte has been sent has the rest of it and what follows its return still to make. -/
theorem exchangesLeft_callCommand {caller : Caller} {c : Command} {arg : BitVec 32} {s : State} {bound : Nat}
    (fits : commandBound s.cfg + leftAfterReturn s.cfg caller s.att.toNat ≤ bound) :
    exchangesLeft (callCommand caller c arg s) < bound := by
  rw [callCommand_eq]
  simp only [exchangesLeft, Laws.exchangeAt_seq, Laws.exchangeAt_cfg, Laws.exchangeAt_att, commandBound] at fits ⊢
  omega

/-- One attempt more leaves room for one command more. -/
theorem command_le_attempts {left before : Nat} (c : Config) (fewer : left < before) :
    commandBound c + left * commandBound c ≤ before * commandBound c := by
  rw [Nat.add_comm, ← Nat.succ_mul]
  exact Nat.mul_le_mul_right _ fewer

/-- What follows the return of SendCommand has one exchange less to make after its first one. -/
theorem returned_exchangesLeft {s t : State} (legal : s.cfg.legal = true) (running : t.busy = true)
    (idle : s.seq.caller = .initIdle → 1 ≤ s.att.toNat ∧ s.att.toNat ≤ s.cfg.idleAttempts)
    (init : s.seq.caller = .initInit → 1 ≤ s.att.toNat ∧ s.att.toNat ≤ s.cfg.initAttempts) (returned : Returned s t) :
    exchangesLeft t < leftAfterReturn s.cfg s.seq.caller s.att.toNat := by
  obtain ⟨-, ⟨-, idleMax⟩, ⟨initBudget, initMax⟩, -⟩ := Laws.legal_bounds legal
  cases returned with
  | timesOut | rejected | sendcmdDone | idleFailed | initFailed | cardFast | cardSlow => exact nomatch running
  | tokenWait caller => obtain caller | caller := caller <;> simp [exchangesLeft, caller, leftAfterReturn]
  | writeData caller => simp [exchangesLeft, caller, leftAfterReturn]
  | idleAgain caller more =>
    obtain ⟨-, inside⟩ := idle caller
    have counted := Laws.count_toNat (n := s.att) (b := s.cfg.idleAttempts) (by omega) idleMax
    rw [caller]
    refine exchangesLeft_callCommand (command_le_attempts s.cfg ?_)
    rw [counted]
    dsimp only
    omega
  | idleEntered caller =>
    rw [caller]
    refine exchangesLeft_callCommand (command_le_attempts s.cfg (?_ : s.cfg.initAttempts - 1 + 2 < _))
    omega
  | initAgain caller more =>
    obtain ⟨-, inside⟩ := init caller
    have counted := Laws.count_toNat (n := s.att) (b := s.cfg.initAttempts) (by omega) initMax
    rw [caller]
    refine exchangesLeft_callCommand (command_le_attempts s.cfg ?_)
    rw [counted]
    dsimp only
    omega
  | negotiating caller =>
    rw [caller]
    refine exchangesLeft_callCommand ((?_ : _ + commandBound s.cfg ≤ _).trans (command_le_attempts (left := 1) s.cfg ?_))
    · rw [Nat.one_mul]
    · omega
  | appAccepted caller =>
    rw [caller]
    exact exchangesLeft_callCommand le_rfl

/-- Sending a data byte leaves the others of the write data phase. -/
theorem exchangesLeft_sendData (v : BitVec 10) (s : State) :
    exchangesLeft (sendData (setIndex v s)) = 511 - v.toNat + s.cfg.wrespPollBudget + s.cfg.busyPollBudget + 1 := by
  rw [sendData_kept]
  rfl

/-- A step of an operation that runs on has used up one of the exchanges that were left. -/
theorem exchangesLeft_lt {s t : State} (legal : s.cfg.legal = true) (inv : BlockInv s) (running : s.seq.pos ≠ .idle)
    (runsOn : t.busy = true) (took : SequencerStep s t) : exchangesLeft t < exchangesLeft s := by
  have placed := inv.placed
  have counters := inv.counters
  obtain ⟨⟨-, respMax⟩, ⟨idleBudget, -⟩, -, ⟨-, tokenMax⟩, ⟨-, wrespMax⟩, ⟨-, busyMax⟩, ⟨fillers, fillMax⟩, -⟩ :=
    Laws.legal_bounds legal
  cases took with
  | rests pos => exact absurd pos running
  | tokenFails | transferDone | drespFails | busyFails => exact nomatch runsOn
  | beginsInit pos =>
    have one : (1#16).toNat = 1 := rfl
    simp only [exchangesLeft, pos, exchangeBound, beginInit, deselect, setClock, Laws.exchangeAt_seq, Laws.exchangeAt_cfg, one]
    omega
  | @begins caller c arg pos called =>
    refine exchangesLeft_callCommand ?_
    simp only [List.mem_cons, List.not_mem_nil, or_false] at called
    obtain rfl | rfl | rfl | rfl := called
    all_goals
      simp only [exchangesLeft, pos, exchangeBound, callerOp, leftAfterReturn, Laws.select_cfg]
      omega
  | filler pos more =>
    have counted := Laws.count_toNat more fillMax
    simp only [exchangesLeft, pos, Laws.exchangeAt_seq, Laws.exchangeAt_cfg, counted]
    omega
  | firstIdle pos =>
    have before : (s.cfg.idleAttempts + s.cfg.initAttempts + 2) * commandBound s.cfg ≤ exchangesLeft s := by simp [exchangesLeft, pos]
    refine exchangesLeft_callCommand ((command_le_attempts s.cfg (?_ : s.cfg.idleAttempts - 1 + s.cfg.initAttempts + 2 < _)).trans before)
    omega
  | frameByte pos more =>
    simp only [exchangesLeft, pos, Laws.exchangeAt_seq, Laws.exchangeAt_cfg, Laws.exchangeAt_att]
    omega
  | firstPoll pos all =>
    simp only [exchangesLeft, pos, Laws.exchangeAt_seq, Laws.exchangeAt_cfg, Laws.exchangeAt_att, clearPolls, BitVec.toNat_zero]
    omega
  | response pos ready =>
    simp only [countersFit, pos, decide_eq_true_eq] at counters
    simp only [exchangesLeft, pos, gotResponse, countPoll, Laws.exchangeAt_seq, Laws.exchangeAt_cfg, Laws.exchangeAt_att]
    omega
  | pollsAgain pos inside =>
    simp only [countersFit, pos, decide_eq_true_eq] at counters
    have counted := Laws.count_toNat counters respMax
    simp only [exchangesLeft, pos, countPoll, counted, Laws.exchangeAt_seq, Laws.exchangeAt_cfg, Laws.exchangeAt_att]
    omega
  | @returns u _ returnsIn returned =>
    obtain ⟨-, -, -, idle, init⟩ := returnsIn.fits inv
    have left : leftAfterReturn s.cfg s.seq.caller s.att.toNat ≤ exchangesLeft s := by
      obtain pos | pos := returnsIn.pos <;> simp [exchangesLeft, pos]
    obtain ⟨x, q, rfl, sameCaller⟩ := returnsIn.eq
    rw [← sameCaller] at idle init left
    exact lt_of_lt_of_le (returned_exchangesLeft (s := { s with resp := x, seq := q }) legal runsOn idle init returned) left
  | token pos =>
    simp only [countersFit, pos, decide_eq_true_eq] at counters
    have before : 514 < exchangesLeft s := by
      simp only [exchangesLeft, pos]
      omega
    have after : exchangesLeft (tokenMatched s) = 514 := by
      cases caller : s.seq.caller <;> simp [exchangesLeft, tokenMatched, setIndex, dataPos, caller]
    omega
  | tokenAgain pos inside =>
    simp only [countersFit, pos, decide_eq_true_eq] at counters
    have counted := Laws.count_toNat counters tokenMax
    simp only [exchangesLeft, pos, countPoll, counted, Laws.exchangeAt_seq, Laws.exchangeAt_cfg]
    omega
  | dataByte pos stores more =>
    have counted := Laws.index_toNat more
    obtain ⟨b, rfl⟩ := stores.eq
    obtain rfl | rfl := stores.dataPos <;> simp [exchangesLeft, pos, setIndex, counted] <;> omega
  | lastByte pos stores =>
    obtain rfl | rfl := stores.dataPos <;> simp [exchangesLeft, pos]
  | crcSecond pos | readFiller pos | writeToken pos => simp [exchangesLeft, pos]
  | firstSend pos =>
    rw [exchangesLeft_sendData]
    simp [exchangesLeft, pos]
  | sends pos more =>
    have counted := Laws.index_toNat more
    rw [exchangesLeft_sendData]
    simp only [exchangesLeft, pos, counted]
    omega
  | allSent pos => simp [exchangesLeft, pos, clearPolls]
  | accepted pos =>
    simp only [countersFit, pos, decide_eq_true_eq] at counters
    simp only [exchangesLeft, pos, clearPolls, latchDataResponse, countPoll, BitVec.toNat_zero, Laws.exchangeAt_seq, Laws.exchangeAt_cfg]
    omega
  | drespAgain pos inside =>
    simp only [countersFit, pos, decide_eq_true_eq] at counters
    have counted := Laws.count_toNat counters wrespMax
    simp only [exchangesLeft, pos, latchDataResponse, countPoll, counted, Laws.exchangeAt_seq, Laws.exchangeAt_cfg]
    omega
  | busyAgain pos inside =>
    simp only [countersFit, pos, decide_eq_true_eq] at counters
    have counted := Laws.count_toNat counters busyMax
    simp only [exchangesLeft, pos, countPoll, counted, Laws.exchangeAt_seq, Laws.exchangeAt_cfg]
    omega
  | ready pos =>
    simp only [countersFit, pos, decide_eq_true_eq] at counters
    simp only [exchangesLeft, pos, Laws.exchangeAt_seq]
    omega

/-! ## Termination -/

/-- A step of a running operation ends it without an exchange, or makes one. -/
theorem StepShape.ends_or_exchanges {s t : State} (shape : StepShape s t) (busy : s.busy = true) (running : s.seq.pos ≠ .idle) :
    (t.busy = false ∧ t.done = true ∧ exchanges t.trace = exchanges s.trace)
      ∨ (t.busy = true ∧ exchanges t.trace = exchanges s.trace + 1) := by
  cases shape with
  | rests pos => exact absurd pos running
  | begins c arg quiet =>
    rw [beginFrame_exchange, exchanges_exchangeAt]
    exact .inr ⟨quiet.busy.trans busy, congrArg (· + 1) quiet.exchanges_eq⟩
  | continues quiet =>
    rw [exchanges_exchangeAt]
    exact .inr ⟨quiet.busy.trans busy, congrArg (· + 1) quiet.exchanges_eq⟩
  | succeeds quiet => exact .inl ⟨rfl, rfl, quiet.exchanges_eq⟩
  | fails recorded =>
    exact .inl ⟨rfl, rfl, (exchanges_deselectedTrace _).trans recorded.quiet.exchanges_eq⟩

/-- A running operation ends within the exchanges it has left, when only the sequencer moves. -/
theorem run_ends {s : State} (runs : RunsAlone s) (inv : BlockInv s) :
    ∃ k t, k ≤ exchangesLeft s + 1 ∧ core.run k s = .next t ∧ t.busy = false ∧ t.done = true
      ∧ exchanges t.trace ≤ exchanges s.trace + exchangesLeft s := by
  induction left : exchangesLeft s using Nat.strong_induction_on generalizing s with
  | _ n ih =>
    subst left
    have running := (busy_iff_of_coherent inv.positionCoherent).mp runs.busy
    obtain ⟨t, next, took⟩ := step_sequencerStep runs.legal inv.positionCoherent runs.turn
    rw [runs.taken] at took
    obtain ⟨rest, done, count⟩ | ⟨busy, count⟩ := took.shape.ends_or_exchanges runs.busy running
    · exact ⟨1, t, Nat.le_add_left _ _, run_succ_of_step next 0, rest, done, by omega⟩
    · have less := exchangesLeft_lt runs.legal inv running busy took
      have runsOn : RunsAlone t := ⟨took.shape.cfg ▸ runs.legal, busy, took.shape.agenda.trans runs.alone⟩
      obtain ⟨k, u, steps, run, rest, done, bound⟩ := ih _ less runsOn (sequencerStep_blockInv runs.legal inv took) rfl
      exact ⟨k + 1, u, by omega, (run_succ_of_step next k).trans run, rest, done, by omega⟩

/-- Settles O50: before its first step an operation has its bound of exchanges left. -/
theorem operationsTerminate : Obligations.OperationsTerminate := by
  intro s op legal inv alone pos
  have left : exchangesLeft s = exchangeBound s.cfg op := by simp only [exchangesLeft, pos]
  rw [← left]
  exact run_ends ⟨legal, busy_of_running inv (by simp [pos]), alone⟩ inv

end Sys2Proof.Proofs
end
